-- ==== Sys2Proof/Word.lean ====
section
/-! DEFINITION. The words of the Z80 and the names its instructions use for registers, register pairs and conditions
(spec 00_scope R11, R12; 30_encoding R173, R174). -/

namespace Sys2Proof

/-- The 8-bit byte, the unit of both address spaces (20_memory R120). -/
abbrev Byte := BitVec 8

/-- A 16-bit register pair, address or port number. -/
abbrev Word := BitVec 16

/-- The low byte of a 16-bit value (00_scope R11). -/
abbrev loByte (v : Word) : Byte := v.extractLsb' 0 8

/-- The high byte of a 16-bit value (00_scope R11). -/
abbrev hiByte (v : Word) : Byte := v.extractLsb' 8 8

/-- The 16-bit value with the given high and low byte (00_scope R12). -/
abbrev mkWord (hi lo : Byte) : Word := hi ++ lo

/-- The 8-bit registers of the 3-bit register code; code 6 is no register (30_encoding R173). -/
inductive Reg8 where
  | b | c | d | e | h | l | a
deriving DecidableEq, Repr

/-- The 8-bit registers under a DD or FD prefix: codes 4 and 5 are the halves of the index register (30_encoding R173). -/
inductive RegXY where
  | b | c | d | e | xh | xl | a
deriving DecidableEq, Repr

/-- The register pairs `dd` and `ss` (30_encoding R174). -/
inductive PairSP where
  | bc | de | hl | sp
deriving DecidableEq, Repr

/-- The register pairs `qq` of PUSH and POP (30_encoding R174). -/
inductive PairAF where
  | bc | de | hl | af
deriving DecidableEq, Repr

/-- The register pairs `pp` and `rr` of ADD IX,pp and ADD IY,rr; `xy` is the index register itself (30_encoding R174). -/
inductive PairXY where
  | bc | de | xy | sp
deriving DecidableEq, Repr

/-- The condition codes (10_state R54). -/
inductive Cond where
  | nz | z | nc | c | po | pe | p | m
deriving DecidableEq, Repr

end Sys2Proof
end

