-- ==== Sys2Proof/Syntax.lean ====
section
/-! DEFINITION. The instructions: one constructor for each row of spec/opcode_table.json (30_encoding R183): first the
rows with operands, then the rows without, each in the table's order (Lean's
runtime numbers constructors with fields up to 244). Operands are those of the row's rule; a passed-over prefix carries the
instruction it stands before (50_undocumented R571). -/

namespace Sys2Proof

/-- An instruction of the Z80: the 285 rows of the opcode table. -/
inductive Instr where
  /-- `DJNZ e` (R521). -/
  | djnzE (e : Byte)
  /-- `JR e` (R513). -/
  | jrE (e : Byte)
  /-- `JR NZ,e` (R517). -/
  | jrNZE (e : Byte)
  /-- `JR Z,e` (R516). -/
  | jrZE (e : Byte)
  /-- `JR NC,e` (R515). -/
  | jrNCE (e : Byte)
  /-- `JR C,e` (R514). -/
  | jrCE (e : Byte)
  /-- `LD dd,nn` (R261). -/
  | ldDdNn (dd : PairSP) (nn : Word)
  /-- `ADD HL,ss` (R421). -/
  | addHLSs (ss : PairSP)
  /-- `LD (nn),HL` (R268). -/
  | ldIndNnHL (nn : Word)
  /-- `LD (nn),A` (R237). -/
  | ldIndNnA (nn : Word)
  /-- `LD HL,(nn)` (R264). -/
  | ldHLIndNn (nn : Word)
  /-- `LD A,(nn)` (R234). -/
  | ldAIndNn (nn : Word)
  /-- `INC ss` (R426). -/
  | incSs (ss : PairSP)
  /-- `DEC ss` (R429). -/
  | decSs (ss : PairSP)
  /-- `INC r` (R376). -/
  | incR (r : Reg8)
  /-- `DEC r` (R380). -/
  | decR (r : Reg8)
  /-- `LD r,n` (R222). -/
  | ldRN (r : Reg8) (n : Byte)
  /-- `LD (HL),n` (R229). -/
  | ldIndHLN (n : Byte)
  /-- `LD r,r'` (R221). -/
  | ldRR (dst : Reg8) (src : Reg8)
  /-- `LD r,(HL)` (R223). -/
  | ldRIndHL (r : Reg8)
  /-- `LD (HL),r` (R226). -/
  | ldIndHLR (r : Reg8)
  /-- `ADD A,r` (R336). -/
  | addAR (r : Reg8)
  /-- `ADD A,n` (R337). -/
  | addAN (n : Byte)
  /-- `ADC A,r` (R341). -/
  | adcAR (r : Reg8)
  /-- `ADC A,n` (R342). -/
  | adcAN (n : Byte)
  /-- `SUB r` (R346). -/
  | subR (r : Reg8)
  /-- `SUB n` (R347). -/
  | subN (n : Byte)
  /-- `SBC A,r` (R351). -/
  | sbcAR (r : Reg8)
  /-- `SBC A,n` (R352). -/
  | sbcAN (n : Byte)
  /-- `AND r` (R356). -/
  | andR (r : Reg8)
  /-- `AND n` (R357). -/
  | andN (n : Byte)
  /-- `XOR r` (R366). -/
  | xorR (r : Reg8)
  /-- `XOR n` (R367). -/
  | xorN (n : Byte)
  /-- `OR r` (R361). -/
  | orR (r : Reg8)
  /-- `OR n` (R362). -/
  | orN (n : Byte)
  /-- `CP r` (R371). -/
  | cpR (r : Reg8)
  /-- `CP n` (R372). -/
  | cpN (n : Byte)
  /-- `RET cc` (R525). -/
  | retCc (cc : Cond)
  /-- `POP qq` (R278). -/
  | popQq (qq : PairAF)
  /-- `JP cc,nn` (R512). -/
  | jpCcNn (cc : Cond) (nn : Word)
  /-- `JP nn` (R511). -/
  | jpNn (nn : Word)
  /-- `OUT (n),A` (R547). -/
  | outPortNA (n : Byte)
  /-- `IN A,(n)` (R541). -/
  | inAPortN (n : Byte)
  /-- `CALL cc,nn` (R523). -/
  | callCcNn (cc : Cond) (nn : Word)
  /-- `PUSH qq` (R275). -/
  | pushQq (qq : PairAF)
  /-- `CALL nn` (R522). -/
  | callNn (nn : Word)
  /-- `RST p` (R528). -/
  | rstP (p : BitVec 3)
  /-- `RLC r` (R446). -/
  | rlcR (r : Reg8)
  /-- `RRC r` (R454). -/
  | rrcR (r : Reg8)
  /-- `RL r` (R450). -/
  | rlR (r : Reg8)
  /-- `RR r` (R458). -/
  | rrR (r : Reg8)
  /-- `SLA r` (R462). -/
  | slaR (r : Reg8)
  /-- `SRA r` (R466). -/
  | sraR (r : Reg8)
  /-- `SRL r` (R470). -/
  | srlR (r : Reg8)
  /-- `SLL r` (R578). -/
  | sllR (r : Reg8)
  /-- `BIT b,r` (R491). -/
  | bitBR (b : BitVec 3) (r : Reg8)
  /-- `BIT b,(HL)` (R492). -/
  | bitBIndHL (b : BitVec 3)
  /-- `RES b,r` (R499). -/
  | resBR (b : BitVec 3) (r : Reg8)
  /-- `RES b,(HL)` (R500). -/
  | resBIndHL (b : BitVec 3)
  /-- `SET b,r` (R495). -/
  | setBR (b : BitVec 3) (r : Reg8)
  /-- `SET b,(HL)` (R496). -/
  | setBIndHL (b : BitVec 3)
  /-- `IN r,(C)` (R542). -/
  | inRPortC (r : Reg8)
  /-- `OUT (C),r` (R548). -/
  | outPortCR (r : Reg8)
  /-- `SBC HL,ss` (R423). -/
  | sbcHLSs (ss : PairSP)
  /-- `ADC HL,ss` (R422). -/
  | adcHLSs (ss : PairSP)
  /-- `LD (nn),dd` (R269). -/
  | ldIndNnDd (nn : Word) (dd : PairSP)
  /-- `LD dd,(nn)` (R265). -/
  | ldDdIndNn (dd : PairSP) (nn : Word)
  /-- `NEG (mirror)` (R586). -/
  | negMirror (k : BitVec 3)
  /-- `RETN (mirror)` (R587). -/
  | retnMirror (k : BitVec 3)
  /-- `IM n (mirror)` (R588). -/
  | imMirror (k : BitVec 3)
  /-- `NOP (ED 77, ED 7F)` (R589). -/
  | nopEd77 (k : BitVec 1)
  /-- `NOP (ED xx, unassigned)` (R589). -/
  | nopEd (op : Byte)
  /-- `LD IX,nn` (R262). -/
  | ldIXNn (nn : Word)
  /-- `LD (nn),IX` (R270). -/
  | ldIndNnIX (nn : Word)
  /-- `LD IX,(nn)` (R266). -/
  | ldIXIndNn (nn : Word)
  /-- `ADD IX,pp` (R424). -/
  | addIXPp (pp : PairXY)
  /-- `INC (IX+d)` (R378). -/
  | incIndIXd (d : Byte)
  /-- `DEC (IX+d)` (R382). -/
  | decIndIXd (d : Byte)
  /-- `LD (IX+d),n` (R230). -/
  | ldIndIXdN (d : Byte) (n : Byte)
  /-- `LD r,(IX+d)` (R224). -/
  | ldRIndIXd (r : Reg8) (d : Byte)
  /-- `LD (IX+d),r` (R227). -/
  | ldIndIXdR (d : Byte) (r : Reg8)
  /-- `ADD A,(IX+d)` (R339). -/
  | addAIndIXd (d : Byte)
  /-- `ADC A,(IX+d)` (R344). -/
  | adcAIndIXd (d : Byte)
  /-- `SUB (IX+d)` (R349). -/
  | subIndIXd (d : Byte)
  /-- `SBC A,(IX+d)` (R354). -/
  | sbcAIndIXd (d : Byte)
  /-- `AND (IX+d)` (R359). -/
  | andIndIXd (d : Byte)
  /-- `XOR (IX+d)` (R369). -/
  | xorIndIXd (d : Byte)
  /-- `OR (IX+d)` (R364). -/
  | orIndIXd (d : Byte)
  /-- `CP (IX+d)` (R374). -/
  | cpIndIXd (d : Byte)
  /-- `LD IXH,n` (R574). -/
  | ldIXHN (n : Byte)
  /-- `LD IXL,n` (R574). -/
  | ldIXLN (n : Byte)
  /-- `LD p,p' (IXH/IXL forms)` (R573). -/
  | ldPPIX (dst : RegXY) (src : RegXY)
  /-- `RLC (IX+d)` (R448). -/
  | rlcIndIXd (d : Byte)
  /-- `RLC (IX+d),r` (R581). -/
  | rlcIndIXdR (d : Byte) (r : Reg8)
  /-- `RRC (IX+d)` (R456). -/
  | rrcIndIXd (d : Byte)
  /-- `RRC (IX+d),r` (R581). -/
  | rrcIndIXdR (d : Byte) (r : Reg8)
  /-- `RL (IX+d)` (R452). -/
  | rlIndIXd (d : Byte)
  /-- `RL (IX+d),r` (R581). -/
  | rlIndIXdR (d : Byte) (r : Reg8)
  /-- `RR (IX+d)` (R460). -/
  | rrIndIXd (d : Byte)
  /-- `RR (IX+d),r` (R581). -/
  | rrIndIXdR (d : Byte) (r : Reg8)
  /-- `SLA (IX+d)` (R464). -/
  | slaIndIXd (d : Byte)
  /-- `SLA (IX+d),r` (R581). -/
  | slaIndIXdR (d : Byte) (r : Reg8)
  /-- `SRA (IX+d)` (R468). -/
  | sraIndIXd (d : Byte)
  /-- `SRA (IX+d),r` (R581). -/
  | sraIndIXdR (d : Byte) (r : Reg8)
  /-- `SRL (IX+d)` (R472). -/
  | srlIndIXd (d : Byte)
  /-- `SRL (IX+d),r` (R581). -/
  | srlIndIXdR (d : Byte) (r : Reg8)
  /-- `SLL (IX+d)` (R580). -/
  | sllIndIXd (d : Byte)
  /-- `SLL (IX+d),r` (R581). -/
  | sllIndIXdR (d : Byte) (r : Reg8)
  /-- `BIT b,(IX+d)` (R493). -/
  | bitBIndIXd (b : BitVec 3) (d : Byte)
  /-- `BIT b,(IX+d) (mirror)` (R583). -/
  | bitBIndIXdMirror (b : BitVec 3) (d : Byte) (r : Reg8)
  /-- `RES b,(IX+d)` (R501). -/
  | resBIndIXd (b : BitVec 3) (d : Byte)
  /-- `RES b,(IX+d),r` (R582). -/
  | resBIndIXdR (b : BitVec 3) (d : Byte) (r : Reg8)
  /-- `SET b,(IX+d)` (R497). -/
  | setBIndIXd (b : BitVec 3) (d : Byte)
  /-- `SET b,(IX+d),r` (R582). -/
  | setBIndIXdR (b : BitVec 3) (d : Byte) (r : Reg8)
  /-- `DD prefix, no effect` (R571). -/
  | ddPass (i : Instr)
  /-- `LD IY,nn` (R263). -/
  | ldIYNn (nn : Word)
  /-- `LD (nn),IY` (R271). -/
  | ldIndNnIY (nn : Word)
  /-- `LD IY,(nn)` (R267). -/
  | ldIYIndNn (nn : Word)
  /-- `ADD IY,rr` (R425). -/
  | addIYRr (pp : PairXY)
  /-- `INC (IY+d)` (R379). -/
  | incIndIYd (d : Byte)
  /-- `DEC (IY+d)` (R383). -/
  | decIndIYd (d : Byte)
  /-- `LD (IY+d),n` (R231). -/
  | ldIndIYdN (d : Byte) (n : Byte)
  /-- `LD r,(IY+d)` (R225). -/
  | ldRIndIYd (r : Reg8) (d : Byte)
  /-- `LD (IY+d),r` (R228). -/
  | ldIndIYdR (d : Byte) (r : Reg8)
  /-- `ADD A,(IY+d)` (R340). -/
  | addAIndIYd (d : Byte)
  /-- `ADC A,(IY+d)` (R345). -/
  | adcAIndIYd (d : Byte)
  /-- `SUB (IY+d)` (R350). -/
  | subIndIYd (d : Byte)
  /-- `SBC A,(IY+d)` (R355). -/
  | sbcAIndIYd (d : Byte)
  /-- `AND (IY+d)` (R360). -/
  | andIndIYd (d : Byte)
  /-- `XOR (IY+d)` (R370). -/
  | xorIndIYd (d : Byte)
  /-- `OR (IY+d)` (R365). -/
  | orIndIYd (d : Byte)
  /-- `CP (IY+d)` (R375). -/
  | cpIndIYd (d : Byte)
  /-- `LD IYH,n` (R574). -/
  | ldIYHN (n : Byte)
  /-- `LD IYL,n` (R574). -/
  | ldIYLN (n : Byte)
  /-- `LD p,p' (IYH/IYL forms)` (R573). -/
  | ldPPIY (dst : RegXY) (src : RegXY)
  /-- `RLC (IY+d)` (R449). -/
  | rlcIndIYd (d : Byte)
  /-- `RLC (IY+d),r` (R581). -/
  | rlcIndIYdR (d : Byte) (r : Reg8)
  /-- `RRC (IY+d)` (R457). -/
  | rrcIndIYd (d : Byte)
  /-- `RRC (IY+d),r` (R581). -/
  | rrcIndIYdR (d : Byte) (r : Reg8)
  /-- `RL (IY+d)` (R453). -/
  | rlIndIYd (d : Byte)
  /-- `RL (IY+d),r` (R581). -/
  | rlIndIYdR (d : Byte) (r : Reg8)
  /-- `RR (IY+d)` (R461). -/
  | rrIndIYd (d : Byte)
  /-- `RR (IY+d),r` (R581). -/
  | rrIndIYdR (d : Byte) (r : Reg8)
  /-- `SLA (IY+d)` (R465). -/
  | slaIndIYd (d : Byte)
  /-- `SLA (IY+d),r` (R581). -/
  | slaIndIYdR (d : Byte) (r : Reg8)
  /-- `SRA (IY+d)` (R469). -/
  | sraIndIYd (d : Byte)
  /-- `SRA (IY+d),r` (R581). -/
  | sraIndIYdR (d : Byte) (r : Reg8)
  /-- `SRL (IY+d)` (R473). -/
  | srlIndIYd (d : Byte)
  /-- `SRL (IY+d),r` (R581). -/
  | srlIndIYdR (d : Byte) (r : Reg8)
  /-- `SLL (IY+d)` (R580). -/
  | sllIndIYd (d : Byte)
  /-- `SLL (IY+d),r` (R581). -/
  | sllIndIYdR (d : Byte) (r : Reg8)
  /-- `BIT b,(IY+d)` (R494). -/
  | bitBIndIYd (b : BitVec 3) (d : Byte)
  /-- `BIT b,(IY+d) (mirror)` (R583). -/
  | bitBIndIYdMirror (b : BitVec 3) (d : Byte) (r : Reg8)
  /-- `RES b,(IY+d)` (R502). -/
  | resBIndIYd (b : BitVec 3) (d : Byte)
  /-- `RES b,(IY+d),r` (R582). -/
  | resBIndIYdR (b : BitVec 3) (d : Byte) (r : Reg8)
  /-- `SET b,(IY+d)` (R498). -/
  | setBIndIYd (b : BitVec 3) (d : Byte)
  /-- `SET b,(IY+d),r` (R582). -/
  | setBIndIYdR (b : BitVec 3) (d : Byte) (r : Reg8)
  /-- `FD prefix, no effect` (R571). -/
  | fdPass (i : Instr)
  /-- `NOP` (R406). -/
  | nop
  /-- `EX AF,AF'` (R301). -/
  | exAFAF
  /-- `LD (BC),A` (R235). -/
  | ldIndBCA
  /-- `LD (DE),A` (R236). -/
  | ldIndDEA
  /-- `LD A,(BC)` (R232). -/
  | ldAIndBC
  /-- `LD A,(DE)` (R233). -/
  | ldAIndDE
  /-- `INC (HL)` (R377). -/
  | incIndHL
  /-- `DEC (HL)` (R381). -/
  | decIndHL
  /-- `RLCA` (R442). -/
  | rlca
  /-- `RRCA` (R444). -/
  | rrca
  /-- `RLA` (R443). -/
  | rla
  /-- `RRA` (R445). -/
  | rra
  /-- `DAA` (R401). -/
  | daa
  /-- `CPL` (R402). -/
  | cpl
  /-- `SCF` (R405). -/
  | scf
  /-- `CCF` (R404). -/
  | ccf
  /-- `HALT` (R407). -/
  | halt
  /-- `ADD A,(HL)` (R338). -/
  | addAIndHL
  /-- `ADC A,(HL)` (R343). -/
  | adcAIndHL
  /-- `SUB (HL)` (R348). -/
  | subIndHL
  /-- `SBC A,(HL)` (R353). -/
  | sbcAIndHL
  /-- `AND (HL)` (R358). -/
  | andIndHL
  /-- `XOR (HL)` (R368). -/
  | xorIndHL
  /-- `OR (HL)` (R363). -/
  | orIndHL
  /-- `CP (HL)` (R373). -/
  | cpIndHL
  /-- `RET` (R524). -/
  | ret
  /-- `EXX` (R302). -/
  | exx
  /-- `JP (HL)` (R518). -/
  | jpIndHL
  /-- `LD SP,HL` (R272). -/
  | ldSPHL
  /-- `EX (SP),HL` (R304). -/
  | exIndSPHL
  /-- `EX DE,HL` (R303). -/
  | exDEHL
  /-- `DI` (R409). -/
  | di
  /-- `EI` (R410). -/
  | ei
  /-- `RLC (HL)` (R447). -/
  | rlcIndHL
  /-- `RRC (HL)` (R455). -/
  | rrcIndHL
  /-- `RL (HL)` (R451). -/
  | rlIndHL
  /-- `RR (HL)` (R459). -/
  | rrIndHL
  /-- `SLA (HL)` (R463). -/
  | slaIndHL
  /-- `SRA (HL)` (R467). -/
  | sraIndHL
  /-- `SRL (HL)` (R471). -/
  | srlIndHL
  /-- `SLL (HL)` (R579). -/
  | sllIndHL
  /-- `IN (C)` (R584). -/
  | inPortC
  /-- `OUT (C),0` (R585). -/
  | outPortC0
  /-- `NEG` (R403). -/
  | neg
  /-- `RETN` (R527). -/
  | retn
  /-- `RETI` (R526). -/
  | reti
  /-- `IM 0` (R411). -/
  | im0
  /-- `IM 1` (R412). -/
  | im1
  /-- `IM 2` (R413). -/
  | im2
  /-- `LD I,A` (R240). -/
  | ldIA
  /-- `LD R,A` (R241). -/
  | ldRA
  /-- `LD A,I` (R238). -/
  | ldAI
  /-- `LD A,R` (R239). -/
  | ldAR
  /-- `RRD` (R475). -/
  | rrd
  /-- `RLD` (R474). -/
  | rld
  /-- `LDI` (R307). -/
  | ldi
  /-- `CPI` (R311). -/
  | cpi
  /-- `INI` (R543). -/
  | ini
  /-- `OUTI` (R549). -/
  | outi
  /-- `LDD` (R309). -/
  | ldd
  /-- `CPD` (R313). -/
  | cpd
  /-- `IND` (R545). -/
  | ind
  /-- `OUTD` (R551). -/
  | outd
  /-- `LDIR` (R308). -/
  | ldir
  /-- `CPIR` (R312). -/
  | cpir
  /-- `INIR` (R544). -/
  | inir
  /-- `OTIR` (R550). -/
  | otir
  /-- `LDDR` (R310). -/
  | lddr
  /-- `CPDR` (R314). -/
  | cpdr
  /-- `INDR` (R546). -/
  | indr
  /-- `OTDR` (R552). -/
  | otdr
  /-- `INC IX` (R427). -/
  | incIX
  /-- `DEC IX` (R430). -/
  | decIX
  /-- `POP IX` (R279). -/
  | popIX
  /-- `EX (SP),IX` (R305). -/
  | exIndSPIX
  /-- `PUSH IX` (R276). -/
  | pushIX
  /-- `JP (IX)` (R519). -/
  | jpIndIX
  /-- `LD SP,IX` (R273). -/
  | ldSPIX
  /-- `INC IXH` (R575). -/
  | incIXH
  /-- `DEC IXH` (R576). -/
  | decIXH
  /-- `INC IXL` (R575). -/
  | incIXL
  /-- `DEC IXL` (R576). -/
  | decIXL
  /-- `ADD A,IXH` (R577). -/
  | addAIXH
  /-- `ADD A,IXL` (R577). -/
  | addAIXL
  /-- `ADC A,IXH` (R577). -/
  | adcAIXH
  /-- `ADC A,IXL` (R577). -/
  | adcAIXL
  /-- `SUB IXH` (R577). -/
  | subIXH
  /-- `SUB IXL` (R577). -/
  | subIXL
  /-- `SBC A,IXH` (R577). -/
  | sbcAIXH
  /-- `SBC A,IXL` (R577). -/
  | sbcAIXL
  /-- `AND IXH` (R577). -/
  | andIXH
  /-- `AND IXL` (R577). -/
  | andIXL
  /-- `XOR IXH` (R577). -/
  | xorIXH
  /-- `XOR IXL` (R577). -/
  | xorIXL
  /-- `OR IXH` (R577). -/
  | orIXH
  /-- `OR IXL` (R577). -/
  | orIXL
  /-- `CP IXH` (R577). -/
  | cpIXH
  /-- `CP IXL` (R577). -/
  | cpIXL
  /-- `DD prefix, overridden` (R572). -/
  | ddOverride
  /-- `INC IY` (R428). -/
  | incIY
  /-- `DEC IY` (R431). -/
  | decIY
  /-- `POP IY` (R280). -/
  | popIY
  /-- `EX (SP),IY` (R306). -/
  | exIndSPIY
  /-- `PUSH IY` (R277). -/
  | pushIY
  /-- `JP (IY)` (R520). -/
  | jpIndIY
  /-- `LD SP,IY` (R274). -/
  | ldSPIY
  /-- `INC IYH` (R575). -/
  | incIYH
  /-- `DEC IYH` (R576). -/
  | decIYH
  /-- `INC IYL` (R575). -/
  | incIYL
  /-- `DEC IYL` (R576). -/
  | decIYL
  /-- `ADD A,IYH` (R577). -/
  | addAIYH
  /-- `ADD A,IYL` (R577). -/
  | addAIYL
  /-- `ADC A,IYH` (R577). -/
  | adcAIYH
  /-- `ADC A,IYL` (R577). -/
  | adcAIYL
  /-- `SUB IYH` (R577). -/
  | subIYH
  /-- `SUB IYL` (R577). -/
  | subIYL
  /-- `SBC A,IYH` (R577). -/
  | sbcAIYH
  /-- `SBC A,IYL` (R577). -/
  | sbcAIYL
  /-- `AND IYH` (R577). -/
  | andIYH
  /-- `AND IYL` (R577). -/
  | andIYL
  /-- `XOR IYH` (R577). -/
  | xorIYH
  /-- `XOR IYL` (R577). -/
  | xorIYL
  /-- `OR IYH` (R577). -/
  | orIYH
  /-- `OR IYL` (R577). -/
  | orIYL
  /-- `CP IYH` (R577). -/
  | cpIYH
  /-- `CP IYL` (R577). -/
  | cpIYL
  /-- `FD prefix, overridden` (R572). -/
  | fdOverride
deriving DecidableEq, Repr

end Sys2Proof
end

