-- ==== Sys2Proof/WellFormed.lean ====
section
/-! DEFINITION. Which terms of `Instr` are instructions: the constraints of spec/opcode_table.json that the operand types
do not already carry (30_encoding R178, R179, R183; 50_undocumented R571, R573, R586 to R589). -/

namespace Sys2Proof

/-- The register is not H or L, so a DD or FD prefix leaves it alone (30_encoding R179). -/
def Reg8.plain : Reg8 → Bool
  | .h | .l => false
  | .b | .c | .d | .e | .a => true

/-- The register is a half of the index register (30_encoding R173). -/
def RegXY.half : RegXY → Bool
  | .xh | .xl => true
  | .b | .c | .d | .e | .a => false

/-- A second byte of an ED instruction that 30_encoding R178 leaves unassigned, 77 and 7F apart (50_undocumented R589). -/
def unassignedEd (op : Byte) : Bool :=
  op < 0x40 || (0x80 ≤ op && op < 0xA0) || 0xC0 ≤ op || (0xA0 ≤ op && op < 0xC0 && op &&& 4 != 0)

/-- An unprefixed instruction whose opcode byte a DD or FD prefix does not change: the ones that may stand after a
passed-over prefix (30_encoding R179, 50_undocumented R571). -/
def Instr.passable : Instr → Bool
  | .nop | .exAFAF | .djnzE _ | .jrE _ | .jrNZE _ | .jrZE _ | .jrNCE _ | .jrCE _ | .ldIndBCA | .ldIndDEA
  | .ldIndNnA _ | .ldAIndBC | .ldAIndDE | .ldAIndNn _ | .rlca | .rrca | .rla | .rra | .daa | .cpl | .scf | .ccf
  | .halt | .retCc _ | .ret | .exx | .jpCcNn _ _ | .jpNn _ | .outPortNA _ | .inAPortN _ | .exDEHL | .di | .ei
  | .callCcNn _ _ | .callNn _ | .rstP _ | .addAN _ | .adcAN _ | .subN _ | .sbcAN _ | .andN _ | .xorN _ | .orN _
  | .cpN _ => true
  | .ldDdNn dd _ => decide (dd ≠ .hl)
  | .incSs ss | .decSs ss => decide (ss ≠ .hl)
  | .incR r | .decR r | .ldRN r _ | .addAR r | .adcAR r | .subR r | .sbcAR r | .andR r | .xorR r | .orR r
  | .cpR r => r.plain
  | .ldRR dst src => dst.plain && src.plain
  | .popQq qq | .pushQq qq => decide (qq ≠ .hl)
  | .addHLSs _ | .ldIndNnHL _ | .ldHLIndNn _ | .incIndHL | .decIndHL | .ldIndHLN _ | .ldRIndHL _ | .ldIndHLR _
  | .addAIndHL | .adcAIndHL | .subIndHL | .sbcAIndHL | .andIndHL | .xorIndHL | .orIndHL | .cpIndHL | .jpIndHL
  | .ldSPHL | .exIndSPHL | .rlcR _ | .rlcIndHL | .rrcR _ | .rrcIndHL | .rlR _ | .rlIndHL | .rrR _ | .rrIndHL
  | .slaR _ | .slaIndHL | .sraR _ | .sraIndHL | .srlR _ | .srlIndHL | .sllR _ | .sllIndHL | .bitBR _ _
  | .bitBIndHL _ | .resBR _ _ | .resBIndHL _ | .setBR _ _ | .setBIndHL _ | .inRPortC _ | .inPortC
  | .outPortCR _ | .outPortC0 | .sbcHLSs _ | .adcHLSs _ | .ldIndNnDd _ _ | .ldDdIndNn _ _ | .neg | .negMirror _
  | .retn | .reti | .retnMirror _ | .im0 | .im1 | .im2 | .imMirror _ | .ldIA | .ldRA | .ldAI | .ldAR | .rrd
  | .rld | .nopEd77 _ | .ldi | .cpi | .ini | .outi | .ldd | .cpd | .ind | .outd | .ldir | .cpir | .inir | .otir
  | .lddr | .cpdr | .indr | .otdr | .nopEd _ | .ldIXNn _ | .ldIndNnIX _ | .ldIXIndNn _ | .incIX | .decIX
  | .addIXPp _ | .incIndIXd _ | .decIndIXd _ | .ldIndIXdN _ _ | .ldRIndIXd _ _ | .ldIndIXdR _ _ | .addAIndIXd _
  | .adcAIndIXd _ | .subIndIXd _ | .sbcAIndIXd _ | .andIndIXd _ | .xorIndIXd _ | .orIndIXd _ | .cpIndIXd _
  | .popIX | .exIndSPIX | .pushIX | .jpIndIX | .ldSPIX | .incIXH | .decIXH | .ldIXHN _ | .incIXL | .decIXL
  | .ldIXLN _ | .ldPPIX _ _ | .addAIXH | .addAIXL | .adcAIXH | .adcAIXL | .subIXH | .subIXL | .sbcAIXH
  | .sbcAIXL | .andIXH | .andIXL | .xorIXH | .xorIXL | .orIXH | .orIXL | .cpIXH | .cpIXL | .rlcIndIXd _
  | .rlcIndIXdR _ _ | .rrcIndIXd _ | .rrcIndIXdR _ _ | .rlIndIXd _ | .rlIndIXdR _ _ | .rrIndIXd _
  | .rrIndIXdR _ _ | .slaIndIXd _ | .slaIndIXdR _ _ | .sraIndIXd _ | .sraIndIXdR _ _ | .srlIndIXd _
  | .srlIndIXdR _ _ | .sllIndIXd _ | .sllIndIXdR _ _ | .bitBIndIXd _ _ | .bitBIndIXdMirror _ _ _
  | .resBIndIXd _ _ | .resBIndIXdR _ _ _ | .setBIndIXd _ _ | .setBIndIXdR _ _ _ | .ddPass _ | .ddOverride
  | .ldIYNn _ | .ldIndNnIY _ | .ldIYIndNn _ | .incIY | .decIY | .addIYRr _ | .incIndIYd _ | .decIndIYd _
  | .ldIndIYdN _ _ | .ldRIndIYd _ _ | .ldIndIYdR _ _ | .addAIndIYd _ | .adcAIndIYd _ | .subIndIYd _
  | .sbcAIndIYd _ | .andIndIYd _ | .xorIndIYd _ | .orIndIYd _ | .cpIndIYd _ | .popIY | .exIndSPIY | .pushIY
  | .jpIndIY | .ldSPIY | .incIYH | .decIYH | .ldIYHN _ | .incIYL | .decIYL | .ldIYLN _ | .ldPPIY _ _ | .addAIYH
  | .addAIYL | .adcAIYH | .adcAIYL | .subIYH | .subIYL | .sbcAIYH | .sbcAIYL | .andIYH | .andIYL | .xorIYH
  | .xorIYL | .orIYH | .orIYL | .cpIYH | .cpIYL | .rlcIndIYd _ | .rlcIndIYdR _ _ | .rrcIndIYd _
  | .rrcIndIYdR _ _ | .rlIndIYd _ | .rlIndIYdR _ _ | .rrIndIYd _ | .rrIndIYdR _ _ | .slaIndIYd _
  | .slaIndIYdR _ _ | .sraIndIYd _ | .sraIndIYdR _ _ | .srlIndIYd _ | .srlIndIYdR _ _ | .sllIndIYd _
  | .sllIndIYdR _ _ | .bitBIndIYd _ _ | .bitBIndIYdMirror _ _ _ | .resBIndIYd _ _ | .resBIndIYdR _ _ _
  | .setBIndIYd _ _ | .setBIndIYdR _ _ _ | .fdPass _ | .fdOverride => false

/-- The term is an instruction of the opcode table: its row's constraints hold. -/
def Instr.wf : Instr → Bool
  | .negMirror k => k != 0
  | .retnMirror k => k != 0 && k != 1
  | .imMirror k => k == 1 || 4 ≤ k
  | .nopEd op => unassignedEd op
  | .ldPPIX dst src | .ldPPIY dst src => dst.half || src.half
  | .ddPass i | .fdPass i => i.passable
  | .nop | .exAFAF | .djnzE _ | .jrE _ | .jrNZE _ | .jrZE _ | .jrNCE _ | .jrCE _ | .ldDdNn _ _ | .addHLSs _
  | .ldIndBCA | .ldIndDEA | .ldIndNnHL _ | .ldIndNnA _ | .ldAIndBC | .ldAIndDE | .ldHLIndNn _ | .ldAIndNn _
  | .incSs _ | .decSs _ | .incR _ | .incIndHL | .decR _ | .decIndHL | .ldRN _ _ | .ldIndHLN _ | .rlca | .rrca
  | .rla | .rra | .daa | .cpl | .scf | .ccf | .ldRR _ _ | .ldRIndHL _ | .ldIndHLR _ | .halt | .addAR _
  | .addAN _ | .addAIndHL | .adcAR _ | .adcAN _ | .adcAIndHL | .subR _ | .subN _ | .subIndHL | .sbcAR _
  | .sbcAN _ | .sbcAIndHL | .andR _ | .andN _ | .andIndHL | .xorR _ | .xorN _ | .xorIndHL | .orR _ | .orN _
  | .orIndHL | .cpR _ | .cpN _ | .cpIndHL | .retCc _ | .popQq _ | .ret | .exx | .jpIndHL | .ldSPHL
  | .jpCcNn _ _ | .jpNn _ | .outPortNA _ | .inAPortN _ | .exIndSPHL | .exDEHL | .di | .ei | .callCcNn _ _
  | .pushQq _ | .callNn _ | .rstP _ | .rlcR _ | .rlcIndHL | .rrcR _ | .rrcIndHL | .rlR _ | .rlIndHL | .rrR _
  | .rrIndHL | .slaR _ | .slaIndHL | .sraR _ | .sraIndHL | .srlR _ | .srlIndHL | .sllR _ | .sllIndHL
  | .bitBR _ _ | .bitBIndHL _ | .resBR _ _ | .resBIndHL _ | .setBR _ _ | .setBIndHL _ | .inRPortC _ | .inPortC
  | .outPortCR _ | .outPortC0 | .sbcHLSs _ | .adcHLSs _ | .ldIndNnDd _ _ | .ldDdIndNn _ _ | .neg | .retn
  | .reti | .im0 | .im1 | .im2 | .ldIA | .ldRA | .ldAI | .ldAR | .rrd | .rld | .nopEd77 _ | .ldi | .cpi | .ini
  | .outi | .ldd | .cpd | .ind | .outd | .ldir | .cpir | .inir | .otir | .lddr | .cpdr | .indr | .otdr
  | .ldIXNn _ | .ldIndNnIX _ | .ldIXIndNn _ | .incIX | .decIX | .addIXPp _ | .incIndIXd _ | .decIndIXd _
  | .ldIndIXdN _ _ | .ldRIndIXd _ _ | .ldIndIXdR _ _ | .addAIndIXd _ | .adcAIndIXd _ | .subIndIXd _
  | .sbcAIndIXd _ | .andIndIXd _ | .xorIndIXd _ | .orIndIXd _ | .cpIndIXd _ | .popIX | .exIndSPIX | .pushIX
  | .jpIndIX | .ldSPIX | .incIXH | .decIXH | .ldIXHN _ | .incIXL | .decIXL | .ldIXLN _ | .addAIXH | .addAIXL
  | .adcAIXH | .adcAIXL | .subIXH | .subIXL | .sbcAIXH | .sbcAIXL | .andIXH | .andIXL | .xorIXH | .xorIXL
  | .orIXH | .orIXL | .cpIXH | .cpIXL | .rlcIndIXd _ | .rlcIndIXdR _ _ | .rrcIndIXd _ | .rrcIndIXdR _ _
  | .rlIndIXd _ | .rlIndIXdR _ _ | .rrIndIXd _ | .rrIndIXdR _ _ | .slaIndIXd _ | .slaIndIXdR _ _ | .sraIndIXd _
  | .sraIndIXdR _ _ | .srlIndIXd _ | .srlIndIXdR _ _ | .sllIndIXd _ | .sllIndIXdR _ _ | .bitBIndIXd _ _
  | .bitBIndIXdMirror _ _ _ | .resBIndIXd _ _ | .resBIndIXdR _ _ _ | .setBIndIXd _ _ | .setBIndIXdR _ _ _
  | .ddOverride | .ldIYNn _ | .ldIndNnIY _ | .ldIYIndNn _ | .incIY | .decIY | .addIYRr _ | .incIndIYd _
  | .decIndIYd _ | .ldIndIYdN _ _ | .ldRIndIYd _ _ | .ldIndIYdR _ _ | .addAIndIYd _ | .adcAIndIYd _
  | .subIndIYd _ | .sbcAIndIYd _ | .andIndIYd _ | .xorIndIYd _ | .orIndIYd _ | .cpIndIYd _ | .popIY
  | .exIndSPIY | .pushIY | .jpIndIY | .ldSPIY | .incIYH | .decIYH | .ldIYHN _ | .incIYL | .decIYL | .ldIYLN _
  | .addAIYH | .addAIYL | .adcAIYH | .adcAIYL | .subIYH | .subIYL | .sbcAIYH | .sbcAIYL | .andIYH | .andIYL
  | .xorIYH | .xorIYL | .orIYH | .orIYL | .cpIYH | .cpIYL | .rlcIndIYd _ | .rlcIndIYdR _ _ | .rrcIndIYd _
  | .rrcIndIYdR _ _ | .rlIndIYd _ | .rlIndIYdR _ _ | .rrIndIYd _ | .rrIndIYdR _ _ | .slaIndIYd _
  | .slaIndIYdR _ _ | .sraIndIYd _ | .sraIndIYdR _ _ | .srlIndIYd _ | .srlIndIYdR _ _ | .sllIndIYd _
  | .sllIndIYdR _ _ | .bitBIndIYd _ _ | .bitBIndIYdMirror _ _ _ | .resBIndIYd _ _ | .resBIndIYdR _ _ _
  | .setBIndIYd _ _ | .setBIndIYdR _ _ _ | .fdOverride => true

/-- The instruction is well formed (an abbreviation, so that it is decidable). -/
abbrev Instr.WellFormed (i : Instr) : Prop := i.wf = true

end Sys2Proof
end

