-- ==== Sys2Proof/Decode.lean ====
section
/-! DEFINITION. The decoder, total on any bytes, and after it the encoder (30_encoding R170 to R183; 50_undocumented R571 to R589).
An opcode byte is read through its fields x, y, z, p, q (R172). -/

namespace Sys2Proof

/-- Field `x = op[7:6]` (30_encoding R172). -/
def opX (op : Byte) : BitVec 2 := op.extractLsb' 6 2

/-- Field `y = op[5:3]` (30_encoding R172). -/
def opY (op : Byte) : BitVec 3 := op.extractLsb' 3 3

/-- Field `z = op[2:0]` (30_encoding R172). -/
def opZ (op : Byte) : BitVec 3 := op.extractLsb' 0 3

/-- Field `p = op[5:4]` (30_encoding R172). -/
def opP (op : Byte) : BitVec 2 := op.extractLsb' 4 2

/-- Field `q = op[3]` (30_encoding R172). -/
def opQ (op : Byte) : BitVec 1 := op.extractLsb' 3 1

/-- The register of a 3-bit code; code 6 is no register (30_encoding R173). -/
def reg8Of (c : BitVec 3) : Option Reg8 :=
  match c with
  | 0#3 => some .b
  | 1#3 => some .c
  | 2#3 => some .d
  | 3#3 => some .e
  | 4#3 => some .h
  | 5#3 => some .l
  | 6#3 => none
  | _ => some .a

/-- The register of a 3-bit code under a DD or FD prefix: 4 and 5 are the index halves (30_encoding R173). -/
def regXYOf (c : BitVec 3) : Option RegXY :=
  match c with
  | 0#3 => some .b
  | 1#3 => some .c
  | 2#3 => some .d
  | 3#3 => some .e
  | 4#3 => some .xh
  | 5#3 => some .xl
  | 6#3 => none
  | _ => some .a

/-- The pair of a `dd` or `ss` code (30_encoding R174). -/
def pairSPOf (c : BitVec 2) : PairSP :=
  match c with
  | 0#2 => .bc
  | 1#2 => .de
  | 2#2 => .hl
  | _ => .sp

/-- The pair of a `qq` code (30_encoding R174). -/
def pairAFOf (c : BitVec 2) : PairAF :=
  match c with
  | 0#2 => .bc
  | 1#2 => .de
  | 2#2 => .hl
  | _ => .af

/-- The pair of an `ADD IX,pp` or `ADD IY,rr` code (30_encoding R174). -/
def pairXYOf (c : BitVec 2) : PairXY :=
  match c with
  | 0#2 => .bc
  | 1#2 => .de
  | 2#2 => .xy
  | _ => .sp

/-- The condition of a code `ccc` (10_state R54). -/
def condOf (c : BitVec 3) : Cond :=
  match c with
  | 0#3 => .nz
  | 1#3 => .z
  | 2#3 => .nc
  | 3#3 => .c
  | 4#3 => .po
  | 5#3 => .pe
  | 6#3 => .p
  | _ => .m

/-- Arithmetic on a register, by operation code (30_encoding R174). -/
def aluR (y : BitVec 3) (r : Reg8) : Instr :=
  match y with
  | 0#3 => .addAR r
  | 1#3 => .adcAR r
  | 2#3 => .subR r
  | 3#3 => .sbcAR r
  | 4#3 => .andR r
  | 5#3 => .xorR r
  | 6#3 => .orR r
  | _ => .cpR r

/-- Arithmetic on an immediate, by operation code (30_encoding R174). -/
def aluN (y : BitVec 3) (n : Byte) : Instr :=
  match y with
  | 0#3 => .addAN n
  | 1#3 => .adcAN n
  | 2#3 => .subN n
  | 3#3 => .sbcAN n
  | 4#3 => .andN n
  | 5#3 => .xorN n
  | 6#3 => .orN n
  | _ => .cpN n

/-- Arithmetic on (HL), by operation code (30_encoding R174). -/
def aluIndHL (y : BitVec 3) : Instr :=
  match y with
  | 0#3 => .addAIndHL
  | 1#3 => .adcAIndHL
  | 2#3 => .subIndHL
  | 3#3 => .sbcAIndHL
  | 4#3 => .andIndHL
  | 5#3 => .xorIndHL
  | 6#3 => .orIndHL
  | _ => .cpIndHL

/-- Arithmetic on IXH, by operation code (50_undocumented R577). -/
def aluIXH (y : BitVec 3) : Instr :=
  match y with
  | 0#3 => .addAIXH
  | 1#3 => .adcAIXH
  | 2#3 => .subIXH
  | 3#3 => .sbcAIXH
  | 4#3 => .andIXH
  | 5#3 => .xorIXH
  | 6#3 => .orIXH
  | _ => .cpIXH

/-- Arithmetic on IXL, by operation code (50_undocumented R577). -/
def aluIXL (y : BitVec 3) : Instr :=
  match y with
  | 0#3 => .addAIXL
  | 1#3 => .adcAIXL
  | 2#3 => .subIXL
  | 3#3 => .sbcAIXL
  | 4#3 => .andIXL
  | 5#3 => .xorIXL
  | 6#3 => .orIXL
  | _ => .cpIXL

/-- Arithmetic on (IX+d), by operation code (30_encoding R174). -/
def aluIndIXd (y : BitVec 3) (d : Byte) : Instr :=
  match y with
  | 0#3 => .addAIndIXd d
  | 1#3 => .adcAIndIXd d
  | 2#3 => .subIndIXd d
  | 3#3 => .sbcAIndIXd d
  | 4#3 => .andIndIXd d
  | 5#3 => .xorIndIXd d
  | 6#3 => .orIndIXd d
  | _ => .cpIndIXd d

/-- Arithmetic on IYH, by operation code (50_undocumented R577). -/
def aluIYH (y : BitVec 3) : Instr :=
  match y with
  | 0#3 => .addAIYH
  | 1#3 => .adcAIYH
  | 2#3 => .subIYH
  | 3#3 => .sbcAIYH
  | 4#3 => .andIYH
  | 5#3 => .xorIYH
  | 6#3 => .orIYH
  | _ => .cpIYH

/-- Arithmetic on IYL, by operation code (50_undocumented R577). -/
def aluIYL (y : BitVec 3) : Instr :=
  match y with
  | 0#3 => .addAIYL
  | 1#3 => .adcAIYL
  | 2#3 => .subIYL
  | 3#3 => .sbcAIYL
  | 4#3 => .andIYL
  | 5#3 => .xorIYL
  | 6#3 => .orIYL
  | _ => .cpIYL

/-- Arithmetic on (IY+d), by operation code (30_encoding R174). -/
def aluIndIYd (y : BitVec 3) (d : Byte) : Instr :=
  match y with
  | 0#3 => .addAIndIYd d
  | 1#3 => .adcAIndIYd d
  | 2#3 => .subIndIYd d
  | 3#3 => .sbcAIndIYd d
  | 4#3 => .andIndIYd d
  | 5#3 => .xorIndIYd d
  | 6#3 => .orIndIYd d
  | _ => .cpIndIYd d

/-- Rotate or shift of a register, by operation code (30_encoding R174). -/
def rotR (y : BitVec 3) (r : Reg8) : Instr :=
  match y with
  | 0#3 => .rlcR r
  | 1#3 => .rrcR r
  | 2#3 => .rlR r
  | 3#3 => .rrR r
  | 4#3 => .slaR r
  | 5#3 => .sraR r
  | 6#3 => .sllR r
  | _ => .srlR r

/-- Rotate or shift of (HL), by operation code (30_encoding R174). -/
def rotIndHL (y : BitVec 3) : Instr :=
  match y with
  | 0#3 => .rlcIndHL
  | 1#3 => .rrcIndHL
  | 2#3 => .rlIndHL
  | 3#3 => .rrIndHL
  | 4#3 => .slaIndHL
  | 5#3 => .sraIndHL
  | 6#3 => .sllIndHL
  | _ => .srlIndHL

/-- Rotate or shift of (IX+d), by operation code (30_encoding R180). -/
def rotIndIXd (y : BitVec 3) (d : Byte) : Instr :=
  match y with
  | 0#3 => .rlcIndIXd d
  | 1#3 => .rrcIndIXd d
  | 2#3 => .rlIndIXd d
  | 3#3 => .rrIndIXd d
  | 4#3 => .slaIndIXd d
  | 5#3 => .sraIndIXd d
  | 6#3 => .sllIndIXd d
  | _ => .srlIndIXd d

/-- Rotate or shift of (IX+d) with a copy into a register (50_undocumented R581). -/
def rotIndIXdR (y : BitVec 3) (d : Byte) (r : Reg8) : Instr :=
  match y with
  | 0#3 => .rlcIndIXdR d r
  | 1#3 => .rrcIndIXdR d r
  | 2#3 => .rlIndIXdR d r
  | 3#3 => .rrIndIXdR d r
  | 4#3 => .slaIndIXdR d r
  | 5#3 => .sraIndIXdR d r
  | 6#3 => .sllIndIXdR d r
  | _ => .srlIndIXdR d r

/-- Rotate or shift of (IY+d), by operation code (30_encoding R180). -/
def rotIndIYd (y : BitVec 3) (d : Byte) : Instr :=
  match y with
  | 0#3 => .rlcIndIYd d
  | 1#3 => .rrcIndIYd d
  | 2#3 => .rlIndIYd d
  | 3#3 => .rrIndIYd d
  | 4#3 => .slaIndIYd d
  | 5#3 => .sraIndIYd d
  | 6#3 => .sllIndIYd d
  | _ => .srlIndIYd d

/-- Rotate or shift of (IY+d) with a copy into a register (50_undocumented R581). -/
def rotIndIYdR (y : BitVec 3) (d : Byte) (r : Reg8) : Instr :=
  match y with
  | 0#3 => .rlcIndIYdR d r
  | 1#3 => .rrcIndIYdR d r
  | 2#3 => .rlIndIYdR d r
  | 3#3 => .rrIndIYdR d r
  | 4#3 => .slaIndIYdR d r
  | 5#3 => .sraIndIYdR d r
  | 6#3 => .sllIndIYdR d r
  | _ => .srlIndIYdR d r

/-- Unprefixed opcodes with `x = 0` (30_encoding R176). -/
def plain0 (op n : Byte) (nn : Word) : Instr :=
  match opZ op with
  | 0#3 =>
    match opY op with
    | 0#3 => .nop
    | 1#3 => .exAFAF
    | 2#3 => .djnzE n
    | 3#3 => .jrE n
    | 4#3 => .jrNZE n
    | 5#3 => .jrZE n
    | 6#3 => .jrNCE n
    | _ => .jrCE n
  | 1#3 => if opQ op = 0#1 then .ldDdNn (pairSPOf (opP op)) nn else .addHLSs (pairSPOf (opP op))
  | 2#3 =>
    match opY op with
    | 0#3 => .ldIndBCA
    | 1#3 => .ldAIndBC
    | 2#3 => .ldIndDEA
    | 3#3 => .ldAIndDE
    | 4#3 => .ldIndNnHL nn
    | 5#3 => .ldHLIndNn nn
    | 6#3 => .ldIndNnA nn
    | _ => .ldAIndNn nn
  | 3#3 => if opQ op = 0#1 then .incSs (pairSPOf (opP op)) else .decSs (pairSPOf (opP op))
  | 4#3 =>
    match reg8Of (opY op) with
    | some r => .incR r
    | none => .incIndHL
  | 5#3 =>
    match reg8Of (opY op) with
    | some r => .decR r
    | none => .decIndHL
  | 6#3 =>
    match reg8Of (opY op) with
    | some r => .ldRN r n
    | none => .ldIndHLN n
  | _ =>
    match opY op with
    | 0#3 => .rlca
    | 1#3 => .rrca
    | 2#3 => .rla
    | 3#3 => .rra
    | 4#3 => .daa
    | 5#3 => .cpl
    | 6#3 => .scf
    | _ => .ccf

/-- Unprefixed opcodes with `x = 1` (30_encoding R176). -/
def plain1 (op : Byte) : Instr :=
  match reg8Of (opY op), reg8Of (opZ op) with
  | some dst, some src => .ldRR dst src
  | some r, none => .ldRIndHL r
  | none, some r => .ldIndHLR r
  | none, none => .halt

/-- Unprefixed opcodes with `x = 2` (30_encoding R176). -/
def plain2 (op : Byte) : Instr :=
  match reg8Of (opZ op) with
  | some r => aluR (opY op) r
  | none => aluIndHL (opY op)

/-- Unprefixed opcodes with `x = 3`; none exactly for the prefix bytes CB, DD, ED, FD (30_encoding R176). -/
def plain3 (op n : Byte) (nn : Word) : Option Instr :=
  match opZ op with
  | 0#3 => some (.retCc (condOf (opY op)))
  | 1#3 =>
    if opQ op = 0#1 then some (.popQq (pairAFOf (opP op)))
    else match opP op with
      | 0#2 => some .ret
      | 1#2 => some .exx
      | 2#2 => some .jpIndHL
      | _ => some .ldSPHL
  | 2#3 => some (.jpCcNn (condOf (opY op)) nn)
  | 3#3 =>
    match opY op with
    | 0#3 => some (.jpNn nn)
    | 1#3 => none
    | 2#3 => some (.outPortNA n)
    | 3#3 => some (.inAPortN n)
    | 4#3 => some .exIndSPHL
    | 5#3 => some .exDEHL
    | 6#3 => some .di
    | _ => some .ei
  | 4#3 => some (.callCcNn (condOf (opY op)) nn)
  | 5#3 =>
    if opQ op = 0#1 then some (.pushQq (pairAFOf (opP op)))
    else if opP op = 0#2 then some (.callNn nn) else none
  | 6#3 => some (aluN (opY op) n)
  | _ => some (.rstP (opY op))

/-- The unprefixed instruction with opcode byte `op`, immediate byte `n` and immediate word `nn`; none exactly for the
prefix bytes CB, DD, ED, FD (30_encoding R176). -/
def decodePlain (op n : Byte) (nn : Word) : Option Instr :=
  match opX op with
  | 0#2 => some (plain0 op n nn)
  | 1#2 => some (plain1 op)
  | 2#2 => some (plain2 op)
  | _ => plain3 op n nn

/-- The CB-prefixed instruction with second byte `op` (30_encoding R177). -/
def decodeCB (op : Byte) : Instr :=
  match opX op, reg8Of (opZ op) with
  | 0#2, some r => rotR (opY op) r
  | 0#2, none => rotIndHL (opY op)
  | 1#2, some r => .bitBR (opY op) r
  | 1#2, none => .bitBIndHL (opY op)
  | 2#2, some r => .resBR (opY op) r
  | 2#2, none => .resBIndHL (opY op)
  | _, some r => .setBR (opY op) r
  | _, none => .setBIndHL (opY op)

/-- ED-prefixed instructions with `x = 1` (30_encoding R178). -/
def ed1 (op : Byte) (nn : Word) : Instr :=
  match opZ op with
  | 0#3 =>
    match reg8Of (opY op) with
    | some r => .inRPortC r
    | none => .inPortC
  | 1#3 =>
    match reg8Of (opY op) with
    | some r => .outPortCR r
    | none => .outPortC0
  | 2#3 => if opQ op = 0#1 then .sbcHLSs (pairSPOf (opP op)) else .adcHLSs (pairSPOf (opP op))
  | 3#3 => if opQ op = 0#1 then .ldIndNnDd nn (pairSPOf (opP op)) else .ldDdIndNn (pairSPOf (opP op)) nn
  | 4#3 => if opY op = 0#3 then .neg else .negMirror (opY op)
  | 5#3 =>
    match opY op with
    | 0#3 => .retn
    | 1#3 => .reti
    | k => .retnMirror k
  | 6#3 =>
    match opY op with
    | 0#3 => .im0
    | 2#3 => .im1
    | 3#3 => .im2
    | k => .imMirror k
  | _ =>
    match opY op with
    | 0#3 => .ldIA
    | 1#3 => .ldRA
    | 2#3 => .ldAI
    | 3#3 => .ldAR
    | 4#3 => .rrd
    | 5#3 => .rld
    | 6#3 => .nopEd77 0
    | _ => .nopEd77 1

/-- ED-prefixed instructions with `x = 2`: the block group and unassigned bytes (30_encoding R178). -/
def ed2 (op : Byte) : Instr :=
  match op with
  | 0xA0#8 => .ldi
  | 0xA1#8 => .cpi
  | 0xA2#8 => .ini
  | 0xA3#8 => .outi
  | 0xA8#8 => .ldd
  | 0xA9#8 => .cpd
  | 0xAA#8 => .ind
  | 0xAB#8 => .outd
  | 0xB0#8 => .ldir
  | 0xB1#8 => .cpir
  | 0xB2#8 => .inir
  | 0xB3#8 => .otir
  | 0xB8#8 => .lddr
  | 0xB9#8 => .cpdr
  | 0xBA#8 => .indr
  | 0xBB#8 => .otdr
  | k => .nopEd k

/-- The ED-prefixed instruction with second byte `op` and immediate word `nn` (30_encoding R178, 50_undocumented R589). -/
def decodeED (op : Byte) (nn : Word) : Instr :=
  match opX op with
  | 1#2 => ed1 op nn
  | 2#2 => ed2 op
  | _ => .nopEd op

/-- Index-affected second bytes with `x = 0` under DD; `b2` and `b3` are the bytes after the opcode (30_encoding R179). -/
def dd0 (op b2 b3 : Byte) : Option Instr :=
  match opZ op with
  | 1#3 =>
    if opQ op = 1#1 then some (.addIXPp (pairXYOf (opP op)))
    else if opP op = 2#2 then some (.ldIXNn (mkWord b3 b2)) else none
  | 2#3 =>
    match opY op with
    | 4#3 => some (.ldIndNnIX (mkWord b3 b2))
    | 5#3 => some (.ldIXIndNn (mkWord b3 b2))
    | _ => none
  | 3#3 =>
    match opY op with
    | 4#3 => some .incIX
    | 5#3 => some .decIX
    | _ => none
  | 4#3 =>
    match opY op with
    | 4#3 => some .incIXH
    | 5#3 => some .incIXL
    | 6#3 => some (.incIndIXd b2)
    | _ => none
  | 5#3 =>
    match opY op with
    | 4#3 => some .decIXH
    | 5#3 => some .decIXL
    | 6#3 => some (.decIndIXd b2)
    | _ => none
  | 6#3 =>
    match opY op with
    | 4#3 => some (.ldIXHN b2)
    | 5#3 => some (.ldIXLN b2)
    | 6#3 => some (.ldIndIXdN b2 b3)
    | _ => none
  | _ => none

/-- Index-affected second bytes with `x = 1` under DD (30_encoding R179, 50_undocumented R573). -/
def dd1 (op b2 : Byte) : Option Instr :=
  match reg8Of (opY op), reg8Of (opZ op) with
  | some r, none => some (.ldRIndIXd r b2)
  | none, some r => some (.ldIndIXdR b2 r)
  | none, none => none
  | some _, some _ =>
    match regXYOf (opY op), regXYOf (opZ op) with
    | some dst, some src => if dst.half || src.half then some (.ldPPIX dst src) else none
    | _, _ => none

/-- Index-affected second bytes with `x = 2` under DD (30_encoding R179, 50_undocumented R577). -/
def dd2 (op b2 : Byte) : Option Instr :=
  match opZ op with
  | 4#3 => some (aluIXH (opY op))
  | 5#3 => some (aluIXL (opY op))
  | 6#3 => some (aluIndIXd (opY op) b2)
  | _ => none

/-- Index-affected second bytes with `x = 3` under DD (30_encoding R179). -/
def dd3 (op : Byte) : Option Instr :=
  match op with
  | 0xE1#8 => some .popIX
  | 0xE3#8 => some .exIndSPIX
  | 0xE5#8 => some .pushIX
  | 0xE9#8 => some .jpIndIX
  | 0xF9#8 => some .ldSPIX
  | _ => none

/-- The instruction of an index-affected second byte under DD; none for the bytes outside the set of 30_encoding R179. -/
def ddAffected (op b2 b3 : Byte) : Option Instr :=
  match opX op with
  | 0#2 => dd0 op b2 b3
  | 1#2 => dd1 op b2
  | 2#2 => dd2 op b2
  | _ => dd3 op

/-- The DDCB instruction with displacement `d` and last byte `op` (30_encoding R180; 50_undocumented R581 to R583). -/
def decodeDDCB (d op : Byte) : Instr :=
  match opX op, reg8Of (opZ op) with
  | 0#2, none => rotIndIXd (opY op) d
  | 0#2, some r => rotIndIXdR (opY op) d r
  | 1#2, none => .bitBIndIXd (opY op) d
  | 1#2, some r => .bitBIndIXdMirror (opY op) d r
  | 2#2, none => .resBIndIXd (opY op) d
  | 2#2, some r => .resBIndIXdR (opY op) d r
  | _, none => .setBIndIXd (opY op) d
  | _, some r => .setBIndIXdR (opY op) d r

/-- The DD-prefixed instruction: the DDCB page, the index-affected set, a passed-over prefix, or an overridden one
(30_encoding R170 (d) to (g), R179; 50_undocumented R571, R572). -/
def decodeDD (b1 b2 b3 : Byte) : Instr :=
  if b1 = 0xCB#8 then decodeDDCB b2 b3
  else match ddAffected b1 b2 b3 with
    | some i => i
    | none =>
      match decodePlain b1 b2 (mkWord b3 b2) with
      | some i => .ddPass i
      | none => .ddOverride

/-- Index-affected second bytes with `x = 0` under FD; `b2` and `b3` are the bytes after the opcode (30_encoding R179). -/
def fd0 (op b2 b3 : Byte) : Option Instr :=
  match opZ op with
  | 1#3 =>
    if opQ op = 1#1 then some (.addIYRr (pairXYOf (opP op)))
    else if opP op = 2#2 then some (.ldIYNn (mkWord b3 b2)) else none
  | 2#3 =>
    match opY op with
    | 4#3 => some (.ldIndNnIY (mkWord b3 b2))
    | 5#3 => some (.ldIYIndNn (mkWord b3 b2))
    | _ => none
  | 3#3 =>
    match opY op with
    | 4#3 => some .incIY
    | 5#3 => some .decIY
    | _ => none
  | 4#3 =>
    match opY op with
    | 4#3 => some .incIYH
    | 5#3 => some .incIYL
    | 6#3 => some (.incIndIYd b2)
    | _ => none
  | 5#3 =>
    match opY op with
    | 4#3 => some .decIYH
    | 5#3 => some .decIYL
    | 6#3 => some (.decIndIYd b2)
    | _ => none
  | 6#3 =>
    match opY op with
    | 4#3 => some (.ldIYHN b2)
    | 5#3 => some (.ldIYLN b2)
    | 6#3 => some (.ldIndIYdN b2 b3)
    | _ => none
  | _ => none

/-- Index-affected second bytes with `x = 1` under FD (30_encoding R179, 50_undocumented R573). -/
def fd1 (op b2 : Byte) : Option Instr :=
  match reg8Of (opY op), reg8Of (opZ op) with
  | some r, none => some (.ldRIndIYd r b2)
  | none, some r => some (.ldIndIYdR b2 r)
  | none, none => none
  | some _, some _ =>
    match regXYOf (opY op), regXYOf (opZ op) with
    | some dst, some src => if dst.half || src.half then some (.ldPPIY dst src) else none
    | _, _ => none

/-- Index-affected second bytes with `x = 2` under FD (30_encoding R179, 50_undocumented R577). -/
def fd2 (op b2 : Byte) : Option Instr :=
  match opZ op with
  | 4#3 => some (aluIYH (opY op))
  | 5#3 => some (aluIYL (opY op))
  | 6#3 => some (aluIndIYd (opY op) b2)
  | _ => none

/-- Index-affected second bytes with `x = 3` under FD (30_encoding R179). -/
def fd3 (op : Byte) : Option Instr :=
  match op with
  | 0xE1#8 => some .popIY
  | 0xE3#8 => some .exIndSPIY
  | 0xE5#8 => some .pushIY
  | 0xE9#8 => some .jpIndIY
  | 0xF9#8 => some .ldSPIY
  | _ => none

/-- The instruction of an index-affected second byte under FD; none for the bytes outside the set of 30_encoding R179. -/
def fdAffected (op b2 b3 : Byte) : Option Instr :=
  match opX op with
  | 0#2 => fd0 op b2 b3
  | 1#2 => fd1 op b2
  | 2#2 => fd2 op b2
  | _ => fd3 op

/-- The FDCB instruction with displacement `d` and last byte `op` (30_encoding R180; 50_undocumented R581 to R583). -/
def decodeFDCB (d op : Byte) : Instr :=
  match opX op, reg8Of (opZ op) with
  | 0#2, none => rotIndIYd (opY op) d
  | 0#2, some r => rotIndIYdR (opY op) d r
  | 1#2, none => .bitBIndIYd (opY op) d
  | 1#2, some r => .bitBIndIYdMirror (opY op) d r
  | 2#2, none => .resBIndIYd (opY op) d
  | 2#2, some r => .resBIndIYdR (opY op) d r
  | _, none => .setBIndIYd (opY op) d
  | _, some r => .setBIndIYdR (opY op) d r

/-- The FD-prefixed instruction: the FDCB page, the index-affected set, a passed-over prefix, or an overridden one
(30_encoding R170 (d) to (g), R179; 50_undocumented R571, R572). -/
def decodeFD (b1 b2 b3 : Byte) : Instr :=
  if b1 = 0xCB#8 then decodeFDCB b2 b3
  else match fdAffected b1 b2 b3 with
    | some i => i
    | none =>
      match decodePlain b1 b2 (mkWord b3 b2) with
      | some i => .fdPass i
      | none => .fdOverride

/-- The instruction that starts with these four bytes; bytes past its length do not matter, but for the one byte after an
overridden prefix (30_encoding R170, R181). Total: every byte sequence is an instruction. -/
def decode4 (b0 b1 b2 b3 : Byte) : Instr :=
  match decodePlain b0 b1 (mkWord b2 b1) with
  | some i => i
  | none =>
    if b0 = 0xCB#8 then decodeCB b1
    else if b0 = 0xED#8 then decodeED b1 (mkWord b3 b2)
    else if b0 = 0xDD#8 then decodeDD b1 b2 b3
    else decodeFD b1 b2 b3

/-- The length of the unprefixed instruction with opcode byte `op`; 1 for a prefix byte (30_encoding R176, R182). -/
def plainLength (op : Byte) : Nat :=
  match opX op, opZ op with
  | 0#2, 0#3 => if opY op = 0#3 || opY op = 1#3 then 1 else 2
  | 0#2, 1#3 => if opQ op = 0#1 then 3 else 1
  | 0#2, 2#3 => if 4#3 ≤ opY op then 3 else 1
  | 0#2, 6#3 => 2
  | 3#2, 2#3 => 3
  | 3#2, 3#3 => if opY op = 0#3 then 3 else if opY op = 2#3 || opY op = 3#3 then 2 else 1
  | 3#2, 4#3 => 3
  | 3#2, 5#3 => if op = 0xCD#8 then 3 else 1
  | 3#2, 6#3 => 2
  | _, _ => 1

/-- The length of a DD- or FD-prefixed instruction with second byte `b1` (30_encoding R182). -/
def prefixedLength (b1 : Byte) : Nat :=
  if b1 = 0xCB#8 then 4
  else if b1 = 0xDD#8 || b1 = 0xED#8 || b1 = 0xFD#8 then 1
  else if b1 = 0x36#8 then 4
  else if b1 = 0x34#8 || b1 = 0x35#8 then 3
  else match opX b1 with
    | 1#2 => if (opY b1 = 6#3) != (opZ b1 = 6#3) then 3 else 2
    | 2#2 => if opZ b1 = 6#3 then 3 else 2
    | _ => 1 + plainLength b1

/-- The length in bytes of the instruction that starts with `b0`, `b1` (30_encoding R182). -/
def instrLength (b0 b1 : Byte) : Nat :=
  if b0 = 0xCB#8 then 2
  else if b0 = 0xED#8 then if opX b1 = 1#2 && opZ b1 = 3#3 then 4 else 2
  else if b0 = 0xDD#8 || b0 = 0xFD#8 then prefixedLength b1
  else plainLength b0

/-- The byte is one of the four prefixes, so a second byte is needed to know the length (30_encoding R182). -/
def isPrefix (b : Byte) : Bool := b = 0xCB#8 || b = 0xDD#8 || b = 0xED#8 || b = 0xFD#8

/-- Why a byte list is no instruction: the only reason is that it ends too soon (30_encoding R181). -/
inductive DecodeError where
  /-- The list ends before the instruction does, or before the byte that tells its length. -/
  | truncated
deriving DecidableEq, Repr

/-- The first instruction of a byte list with the bytes after it (30_encoding R170, R181, R182). -/
def decode (bs : List Byte) : Except DecodeError (Instr × List Byte) :=
  match bs with
  | [] => .error .truncated
  | b0 :: rest =>
    if isPrefix b0 && rest.isEmpty then .error .truncated
    else
      let b1 := rest.getD 0 0
      let len := instrLength b0 b1
      if bs.length < len then .error .truncated
      else .ok (decode4 b0 b1 (rest.getD 1 0) (rest.getD 2 0), bs.drop len)

/-- The byte at position `k` of a word of `nbits` bits written first byte most significant, as spec/opcode_table.json writes
its `match` and `mask`; past the word, 0 (30_encoding R183; log entry 19: DEDUCED, safe). -/
def tableByte (nbits w k : Nat) : Byte :=
  if k < nbits / 8 then BitVec.ofNat 8 (w >>> (8 * (nbits / 8 - 1 - k))) else 0

/-- The instruction of a word numbered as spec/opcode_table.json numbers it, padded with zero bytes (30_encoding R183). -/
def decodeTableWord (nbits w : Nat) : Option Instr :=
  some (decode4 (tableByte nbits w 0) (tableByte nbits w 1) (tableByte nbits w 2) (tableByte nbits w 3))

/-- The 3-bit code of a register (30_encoding R173). -/
def Reg8.code : Reg8 → BitVec 3
  | .b => 0 | .c => 1 | .d => 2 | .e => 3 | .h => 4 | .l => 5 | .a => 7

/-- The 3-bit code of a register under a DD or FD prefix (30_encoding R173). -/
def RegXY.code : RegXY → BitVec 3
  | .b => 0 | .c => 1 | .d => 2 | .e => 3 | .xh => 4 | .xl => 5 | .a => 7

/-- The 2-bit code of a `dd` or `ss` pair (30_encoding R174). -/
def PairSP.code : PairSP → BitVec 2
  | .bc => 0 | .de => 1 | .hl => 2 | .sp => 3

/-- The 2-bit code of a `qq` pair (30_encoding R174). -/
def PairAF.code : PairAF → BitVec 2
  | .bc => 0 | .de => 1 | .hl => 2 | .af => 3

/-- The 2-bit code of a `pp` or `rr` pair (30_encoding R174). -/
def PairXY.code : PairXY → BitVec 2
  | .bc => 0 | .de => 1 | .xy => 2 | .sp => 3

/-- The 3-bit code of a condition (10_state R54). -/
def Cond.code : Cond → BitVec 3
  | .nz => 0 | .z => 1 | .nc => 2 | .c => 3 | .po => 4 | .pe => 5 | .p => 6 | .m => 7

/-- The opcode byte with fields x, y, z (30_encoding R172). -/
def opXYZ (x : BitVec 2) (y z : BitVec 3) : Byte := x ++ y ++ z

/-- The opcode byte with fields x, p, q, z (30_encoding R172). -/
def opXPQZ (x p : BitVec 2) (q : BitVec 1) (z : BitVec 3) : Byte := x ++ p ++ q ++ z

/-- The bytes of an instruction, first fetched byte first: the `encoding` column of spec/opcode_table.json. -/
def encode : Instr → List Byte
  | .nop => [0x00]
  | .exAFAF => [0x08]
  | .djnzE e => [0x10, e]
  | .jrE e => [0x18, e]
  | .jrNZE e => [0x20, e]
  | .jrZE e => [0x28, e]
  | .jrNCE e => [0x30, e]
  | .jrCE e => [0x38, e]
  | .ldDdNn dd nn => [opXPQZ 0 dd.code 0 1, loByte nn, hiByte nn]
  | .addHLSs ss => [opXPQZ 0 ss.code 1 1]
  | .ldIndBCA => [0x02]
  | .ldIndDEA => [0x12]
  | .ldIndNnHL nn => [0x22, loByte nn, hiByte nn]
  | .ldIndNnA nn => [0x32, loByte nn, hiByte nn]
  | .ldAIndBC => [0x0A]
  | .ldAIndDE => [0x1A]
  | .ldHLIndNn nn => [0x2A, loByte nn, hiByte nn]
  | .ldAIndNn nn => [0x3A, loByte nn, hiByte nn]
  | .incSs ss => [opXPQZ 0 ss.code 0 3]
  | .decSs ss => [opXPQZ 0 ss.code 1 3]
  | .incR r => [opXYZ 0 r.code 4]
  | .incIndHL => [0x34]
  | .decR r => [opXYZ 0 r.code 5]
  | .decIndHL => [0x35]
  | .ldRN r n => [opXYZ 0 r.code 6, n]
  | .ldIndHLN n => [0x36, n]
  | .rlca => [0x07]
  | .rrca => [0x0F]
  | .rla => [0x17]
  | .rra => [0x1F]
  | .daa => [0x27]
  | .cpl => [0x2F]
  | .scf => [0x37]
  | .ccf => [0x3F]
  | .ldRR dst src => [opXYZ 1 dst.code src.code]
  | .ldRIndHL r => [opXYZ 1 r.code 6]
  | .ldIndHLR r => [opXYZ 1 6 r.code]
  | .halt => [0x76]
  | .addAR r => [opXYZ 2 0 r.code]
  | .addAN n => [0xC6, n]
  | .addAIndHL => [0x86]
  | .adcAR r => [opXYZ 2 1 r.code]
  | .adcAN n => [0xCE, n]
  | .adcAIndHL => [0x8E]
  | .subR r => [opXYZ 2 2 r.code]
  | .subN n => [0xD6, n]
  | .subIndHL => [0x96]
  | .sbcAR r => [opXYZ 2 3 r.code]
  | .sbcAN n => [0xDE, n]
  | .sbcAIndHL => [0x9E]
  | .andR r => [opXYZ 2 4 r.code]
  | .andN n => [0xE6, n]
  | .andIndHL => [0xA6]
  | .xorR r => [opXYZ 2 5 r.code]
  | .xorN n => [0xEE, n]
  | .xorIndHL => [0xAE]
  | .orR r => [opXYZ 2 6 r.code]
  | .orN n => [0xF6, n]
  | .orIndHL => [0xB6]
  | .cpR r => [opXYZ 2 7 r.code]
  | .cpN n => [0xFE, n]
  | .cpIndHL => [0xBE]
  | .retCc cc => [opXYZ 3 cc.code 0]
  | .popQq qq => [opXPQZ 3 qq.code 0 1]
  | .ret => [0xC9]
  | .exx => [0xD9]
  | .jpIndHL => [0xE9]
  | .ldSPHL => [0xF9]
  | .jpCcNn cc nn => [opXYZ 3 cc.code 2, loByte nn, hiByte nn]
  | .jpNn nn => [0xC3, loByte nn, hiByte nn]
  | .outPortNA n => [0xD3, n]
  | .inAPortN n => [0xDB, n]
  | .exIndSPHL => [0xE3]
  | .exDEHL => [0xEB]
  | .di => [0xF3]
  | .ei => [0xFB]
  | .callCcNn cc nn => [opXYZ 3 cc.code 4, loByte nn, hiByte nn]
  | .pushQq qq => [opXPQZ 3 qq.code 0 5]
  | .callNn nn => [0xCD, loByte nn, hiByte nn]
  | .rstP p => [opXYZ 3 p 7]
  | .rlcR r => [0xCB, opXYZ 0 0 r.code]
  | .rlcIndHL => [0xCB, 0x06]
  | .rrcR r => [0xCB, opXYZ 0 1 r.code]
  | .rrcIndHL => [0xCB, 0x0E]
  | .rlR r => [0xCB, opXYZ 0 2 r.code]
  | .rlIndHL => [0xCB, 0x16]
  | .rrR r => [0xCB, opXYZ 0 3 r.code]
  | .rrIndHL => [0xCB, 0x1E]
  | .slaR r => [0xCB, opXYZ 0 4 r.code]
  | .slaIndHL => [0xCB, 0x26]
  | .sraR r => [0xCB, opXYZ 0 5 r.code]
  | .sraIndHL => [0xCB, 0x2E]
  | .srlR r => [0xCB, opXYZ 0 7 r.code]
  | .srlIndHL => [0xCB, 0x3E]
  | .sllR r => [0xCB, opXYZ 0 6 r.code]
  | .sllIndHL => [0xCB, 0x36]
  | .bitBR b r => [0xCB, opXYZ 1 b r.code]
  | .bitBIndHL b => [0xCB, opXYZ 1 b 6]
  | .resBR b r => [0xCB, opXYZ 2 b r.code]
  | .resBIndHL b => [0xCB, opXYZ 2 b 6]
  | .setBR b r => [0xCB, opXYZ 3 b r.code]
  | .setBIndHL b => [0xCB, opXYZ 3 b 6]
  | .inRPortC r => [0xED, opXYZ 1 r.code 0]
  | .inPortC => [0xED, 0x70]
  | .outPortCR r => [0xED, opXYZ 1 r.code 1]
  | .outPortC0 => [0xED, 0x71]
  | .sbcHLSs ss => [0xED, opXPQZ 1 ss.code 0 2]
  | .adcHLSs ss => [0xED, opXPQZ 1 ss.code 1 2]
  | .ldIndNnDd nn dd => [0xED, opXPQZ 1 dd.code 0 3, loByte nn, hiByte nn]
  | .ldDdIndNn dd nn => [0xED, opXPQZ 1 dd.code 1 3, loByte nn, hiByte nn]
  | .neg => [0xED, 0x44]
  | .negMirror k => [0xED, opXYZ 1 k 4]
  | .retn => [0xED, 0x45]
  | .reti => [0xED, 0x4D]
  | .retnMirror k => [0xED, opXYZ 1 k 5]
  | .im0 => [0xED, 0x46]
  | .im1 => [0xED, 0x56]
  | .im2 => [0xED, 0x5E]
  | .imMirror k => [0xED, opXYZ 1 k 6]
  | .ldIA => [0xED, 0x47]
  | .ldRA => [0xED, 0x4F]
  | .ldAI => [0xED, 0x57]
  | .ldAR => [0xED, 0x5F]
  | .rrd => [0xED, 0x67]
  | .rld => [0xED, 0x6F]
  | .nopEd77 k => [0xED, opXPQZ 1 3 k 7]
  | .ldi => [0xED, 0xA0]
  | .cpi => [0xED, 0xA1]
  | .ini => [0xED, 0xA2]
  | .outi => [0xED, 0xA3]
  | .ldd => [0xED, 0xA8]
  | .cpd => [0xED, 0xA9]
  | .ind => [0xED, 0xAA]
  | .outd => [0xED, 0xAB]
  | .ldir => [0xED, 0xB0]
  | .cpir => [0xED, 0xB1]
  | .inir => [0xED, 0xB2]
  | .otir => [0xED, 0xB3]
  | .lddr => [0xED, 0xB8]
  | .cpdr => [0xED, 0xB9]
  | .indr => [0xED, 0xBA]
  | .otdr => [0xED, 0xBB]
  | .nopEd op => [0xED, op]
  | .ldIXNn nn => [0xDD, 0x21, loByte nn, hiByte nn]
  | .ldIndNnIX nn => [0xDD, 0x22, loByte nn, hiByte nn]
  | .ldIXIndNn nn => [0xDD, 0x2A, loByte nn, hiByte nn]
  | .incIX => [0xDD, 0x23]
  | .decIX => [0xDD, 0x2B]
  | .addIXPp pp => [0xDD, opXPQZ 0 pp.code 1 1]
  | .incIndIXd d => [0xDD, 0x34, d]
  | .decIndIXd d => [0xDD, 0x35, d]
  | .ldIndIXdN d n => [0xDD, 0x36, d, n]
  | .ldRIndIXd r d => [0xDD, opXYZ 1 r.code 6, d]
  | .ldIndIXdR d r => [0xDD, opXYZ 1 6 r.code, d]
  | .addAIndIXd d => [0xDD, 0x86, d]
  | .adcAIndIXd d => [0xDD, 0x8E, d]
  | .subIndIXd d => [0xDD, 0x96, d]
  | .sbcAIndIXd d => [0xDD, 0x9E, d]
  | .andIndIXd d => [0xDD, 0xA6, d]
  | .xorIndIXd d => [0xDD, 0xAE, d]
  | .orIndIXd d => [0xDD, 0xB6, d]
  | .cpIndIXd d => [0xDD, 0xBE, d]
  | .popIX => [0xDD, 0xE1]
  | .exIndSPIX => [0xDD, 0xE3]
  | .pushIX => [0xDD, 0xE5]
  | .jpIndIX => [0xDD, 0xE9]
  | .ldSPIX => [0xDD, 0xF9]
  | .incIXH => [0xDD, 0x24]
  | .decIXH => [0xDD, 0x25]
  | .ldIXHN n => [0xDD, 0x26, n]
  | .incIXL => [0xDD, 0x2C]
  | .decIXL => [0xDD, 0x2D]
  | .ldIXLN n => [0xDD, 0x2E, n]
  | .ldPPIX dst src => [0xDD, opXYZ 1 dst.code src.code]
  | .addAIXH => [0xDD, 0x84]
  | .addAIXL => [0xDD, 0x85]
  | .adcAIXH => [0xDD, 0x8C]
  | .adcAIXL => [0xDD, 0x8D]
  | .subIXH => [0xDD, 0x94]
  | .subIXL => [0xDD, 0x95]
  | .sbcAIXH => [0xDD, 0x9C]
  | .sbcAIXL => [0xDD, 0x9D]
  | .andIXH => [0xDD, 0xA4]
  | .andIXL => [0xDD, 0xA5]
  | .xorIXH => [0xDD, 0xAC]
  | .xorIXL => [0xDD, 0xAD]
  | .orIXH => [0xDD, 0xB4]
  | .orIXL => [0xDD, 0xB5]
  | .cpIXH => [0xDD, 0xBC]
  | .cpIXL => [0xDD, 0xBD]
  | .rlcIndIXd d => [0xDD, 0xCB, d, 0x06]
  | .rlcIndIXdR d r => [0xDD, 0xCB, d, opXYZ 0 0 r.code]
  | .rrcIndIXd d => [0xDD, 0xCB, d, 0x0E]
  | .rrcIndIXdR d r => [0xDD, 0xCB, d, opXYZ 0 1 r.code]
  | .rlIndIXd d => [0xDD, 0xCB, d, 0x16]
  | .rlIndIXdR d r => [0xDD, 0xCB, d, opXYZ 0 2 r.code]
  | .rrIndIXd d => [0xDD, 0xCB, d, 0x1E]
  | .rrIndIXdR d r => [0xDD, 0xCB, d, opXYZ 0 3 r.code]
  | .slaIndIXd d => [0xDD, 0xCB, d, 0x26]
  | .slaIndIXdR d r => [0xDD, 0xCB, d, opXYZ 0 4 r.code]
  | .sraIndIXd d => [0xDD, 0xCB, d, 0x2E]
  | .sraIndIXdR d r => [0xDD, 0xCB, d, opXYZ 0 5 r.code]
  | .srlIndIXd d => [0xDD, 0xCB, d, 0x3E]
  | .srlIndIXdR d r => [0xDD, 0xCB, d, opXYZ 0 7 r.code]
  | .sllIndIXd d => [0xDD, 0xCB, d, 0x36]
  | .sllIndIXdR d r => [0xDD, 0xCB, d, opXYZ 0 6 r.code]
  | .bitBIndIXd b d => [0xDD, 0xCB, d, opXYZ 1 b 6]
  | .bitBIndIXdMirror b d r => [0xDD, 0xCB, d, opXYZ 1 b r.code]
  | .resBIndIXd b d => [0xDD, 0xCB, d, opXYZ 2 b 6]
  | .resBIndIXdR b d r => [0xDD, 0xCB, d, opXYZ 2 b r.code]
  | .setBIndIXd b d => [0xDD, 0xCB, d, opXYZ 3 b 6]
  | .setBIndIXdR b d r => [0xDD, 0xCB, d, opXYZ 3 b r.code]
  | .ddPass i => 0xDD :: encode i
  | .ddOverride => [0xDD]
  | .ldIYNn nn => [0xFD, 0x21, loByte nn, hiByte nn]
  | .ldIndNnIY nn => [0xFD, 0x22, loByte nn, hiByte nn]
  | .ldIYIndNn nn => [0xFD, 0x2A, loByte nn, hiByte nn]
  | .incIY => [0xFD, 0x23]
  | .decIY => [0xFD, 0x2B]
  | .addIYRr pp => [0xFD, opXPQZ 0 pp.code 1 1]
  | .incIndIYd d => [0xFD, 0x34, d]
  | .decIndIYd d => [0xFD, 0x35, d]
  | .ldIndIYdN d n => [0xFD, 0x36, d, n]
  | .ldRIndIYd r d => [0xFD, opXYZ 1 r.code 6, d]
  | .ldIndIYdR d r => [0xFD, opXYZ 1 6 r.code, d]
  | .addAIndIYd d => [0xFD, 0x86, d]
  | .adcAIndIYd d => [0xFD, 0x8E, d]
  | .subIndIYd d => [0xFD, 0x96, d]
  | .sbcAIndIYd d => [0xFD, 0x9E, d]
  | .andIndIYd d => [0xFD, 0xA6, d]
  | .xorIndIYd d => [0xFD, 0xAE, d]
  | .orIndIYd d => [0xFD, 0xB6, d]
  | .cpIndIYd d => [0xFD, 0xBE, d]
  | .popIY => [0xFD, 0xE1]
  | .exIndSPIY => [0xFD, 0xE3]
  | .pushIY => [0xFD, 0xE5]
  | .jpIndIY => [0xFD, 0xE9]
  | .ldSPIY => [0xFD, 0xF9]
  | .incIYH => [0xFD, 0x24]
  | .decIYH => [0xFD, 0x25]
  | .ldIYHN n => [0xFD, 0x26, n]
  | .incIYL => [0xFD, 0x2C]
  | .decIYL => [0xFD, 0x2D]
  | .ldIYLN n => [0xFD, 0x2E, n]
  | .ldPPIY dst src => [0xFD, opXYZ 1 dst.code src.code]
  | .addAIYH => [0xFD, 0x84]
  | .addAIYL => [0xFD, 0x85]
  | .adcAIYH => [0xFD, 0x8C]
  | .adcAIYL => [0xFD, 0x8D]
  | .subIYH => [0xFD, 0x94]
  | .subIYL => [0xFD, 0x95]
  | .sbcAIYH => [0xFD, 0x9C]
  | .sbcAIYL => [0xFD, 0x9D]
  | .andIYH => [0xFD, 0xA4]
  | .andIYL => [0xFD, 0xA5]
  | .xorIYH => [0xFD, 0xAC]
  | .xorIYL => [0xFD, 0xAD]
  | .orIYH => [0xFD, 0xB4]
  | .orIYL => [0xFD, 0xB5]
  | .cpIYH => [0xFD, 0xBC]
  | .cpIYL => [0xFD, 0xBD]
  | .rlcIndIYd d => [0xFD, 0xCB, d, 0x06]
  | .rlcIndIYdR d r => [0xFD, 0xCB, d, opXYZ 0 0 r.code]
  | .rrcIndIYd d => [0xFD, 0xCB, d, 0x0E]
  | .rrcIndIYdR d r => [0xFD, 0xCB, d, opXYZ 0 1 r.code]
  | .rlIndIYd d => [0xFD, 0xCB, d, 0x16]
  | .rlIndIYdR d r => [0xFD, 0xCB, d, opXYZ 0 2 r.code]
  | .rrIndIYd d => [0xFD, 0xCB, d, 0x1E]
  | .rrIndIYdR d r => [0xFD, 0xCB, d, opXYZ 0 3 r.code]
  | .slaIndIYd d => [0xFD, 0xCB, d, 0x26]
  | .slaIndIYdR d r => [0xFD, 0xCB, d, opXYZ 0 4 r.code]
  | .sraIndIYd d => [0xFD, 0xCB, d, 0x2E]
  | .sraIndIYdR d r => [0xFD, 0xCB, d, opXYZ 0 5 r.code]
  | .srlIndIYd d => [0xFD, 0xCB, d, 0x3E]
  | .srlIndIYdR d r => [0xFD, 0xCB, d, opXYZ 0 7 r.code]
  | .sllIndIYd d => [0xFD, 0xCB, d, 0x36]
  | .sllIndIYdR d r => [0xFD, 0xCB, d, opXYZ 0 6 r.code]
  | .bitBIndIYd b d => [0xFD, 0xCB, d, opXYZ 1 b 6]
  | .bitBIndIYdMirror b d r => [0xFD, 0xCB, d, opXYZ 1 b r.code]
  | .resBIndIYd b d => [0xFD, 0xCB, d, opXYZ 2 b 6]
  | .resBIndIYdR b d r => [0xFD, 0xCB, d, opXYZ 2 b r.code]
  | .setBIndIYd b d => [0xFD, 0xCB, d, opXYZ 3 b 6]
  | .setBIndIYdR b d r => [0xFD, 0xCB, d, opXYZ 3 b r.code]
  | .fdPass i => 0xFD :: encode i
  | .fdOverride => [0xFD]

/-- Bytes that may stand after an instruction without changing how it is read: an overridden prefix needs another prefix
after it (50_undocumented R572), every other instruction takes anything. -/
def Instr.followedBy (i : Instr) (rest : List Byte) : Bool :=
  match i with
  | .ddOverride | .fdOverride => rest.head? == some 0xDD || rest.head? == some 0xED || rest.head? == some 0xFD
  | _ => true

end Sys2Proof
end

