-- ==== Sys2Proof/Config.lean ====
section
/-! DEFINITION. The parameters of the machine (00_scope R4 to R10) with the spec's defaults, and the free values: constants
without a body, so that nothing can be proved of a value the spec leaves open. -/

namespace Sys2Proof

/-- A value for each of the four drives 0 to 3 (00_scope R9, `NUM_DRIVES` = 4). -/
structure Four (α : Type) where
  d0 : α
  d1 : α
  d2 : α
  d3 : α
deriving DecidableEq, Repr

/-- The value of drive `d`. -/
def Four.get {α : Type} (f : Four α) (d : BitVec 2) : α :=
  match d with
  | 0#2 => f.d0
  | 1#2 => f.d1
  | 2#2 => f.d2
  | _ => f.d3

/-- `f` with drive `d` given the value `v`. -/
def Four.set {α : Type} (f : Four α) (d : BitVec 2) (v : α) : Four α :=
  match d with
  | 0#2 => { f with d0 := v }
  | 1#2 => { f with d1 := v }
  | 2#2 => { f with d2 := v }
  | _ => { f with d3 := v }

/-- A record of the table of edge-polling loops (00_scope R10, 53_hooks_accel R805). `bUp` says that `b_step` is +1, else it
is -1. -/
structure EdgePattern where
  mask : List Byte
  expected : List Byte
  len : Nat
  bitMask : Byte
  cycles : Nat
  bUp : Bool
  bTimeout : Byte
deriving DecidableEq, Repr

/-- The edge loop of the ZX ROM, the one record the spec gives (53_hooks_accel R806). -/
def romEdgePattern : EdgePattern where
  mask := List.replicate 13 0xFF
  expected := [0x04, 0xC8, 0x3E, 0x7F, 0xDB, 0xFE, 0x1F, 0xD0, 0xA9, 0xE6, 0x20, 0x28, 0xF3]
  len := 13
  bitMask := 0x20
  cycles := 59
  bUp := true
  bTimeout := 0xFF

/-- The parameters of the model (00_scope R4 to R10; 92_eei_decisions D2, D10, D34, D37). -/
structure Config where
  /-- `Z80_CLOCK_HZ`, T-states per second (R4). -/
  clockHz : Nat
  /-- `frame_len`, T-states per frame (R4). -/
  frameLen : Nat
  /-- `int_pos`, start of the interrupt window (R4). -/
  intPos : Nat
  /-- `int_len`, length of the interrupt window (R4). -/
  intLen : Nat
  /-- `tpi`, the overshoot bound of the acceptance test (R4). -/
  tpi : Nat
  /-- `tape_traps` (R5). -/
  tapeTraps : Bool
  /-- `tape_autostart` (R5). -/
  tapeAutostart : Bool
  /-- `sound_enabled` (R5). -/
  soundEnabled : Bool
  /-- `trdos_present` (R5). -/
  trdosPresent : Bool
  /-- `trdos_traps` (R5). -/
  trdosTraps : Bool
  /-- `wd93_nodelay` (R5). -/
  wd93Nodelay : Bool
  /-- `trdos_wp[0..3]` (R5). -/
  trdosWp : Four Bool
  /-- `MODEL_48K` (R6). -/
  model48k : Bool
  /-- `INT_BUS_BYTE` (R7). -/
  intBusByte : Byte
  /-- `FDD_RPS`, disk revolutions per second (R9). -/
  fddRps : Nat
  /-- `MAX_PHYS_CYL` (R9). -/
  maxPhysCyl : Nat
  /-- `SEEK_RETRY_TURNS` (R9). -/
  seekRetryTurns : Nat
  /-- `edge_patterns` (R10). -/
  edgePatterns : List EdgePattern
deriving DecidableEq, Repr

/-- The spec's defaults (00_scope R4 to R10; 92_eei_decisions D2). -/
def Config.default : Config where
  clockHz := 3500000
  frameLen := 71680
  intPos := 0
  intLen := 32
  tpi := 71680
  tapeTraps := false
  tapeAutostart := false
  soundEnabled := true
  trdosPresent := true
  trdosTraps := false
  wd93Nodelay := false
  trdosWp := ⟨false, false, false, false⟩
  model48k := false
  intBusByte := 0xFF
  fddRps := 5
  maxPhysCyl := 86
  seekRetryTurns := 5
  edgePatterns := [romEdgePattern]

/-- The constraints the model may assume of the parameters (00_scope R4). The definitions do not need them. -/
def Config.wf (c : Config) : Bool :=
  c.intPos + c.intLen ≤ c.frameLen && 32768 ≤ c.frameLen

/-- FREE VALUE, one per draw: the flag bits that 10_state R53 leaves without a value (log entry 6). -/
opaque Config.freeFlags : Nat → Byte

/-- FREE VALUE, one per draw and position: a byte read past the end of the selected track (log entry 15). -/
opaque Config.offTrackByte : Nat → Nat → Byte

/-- FREE VALUE, one per index: a pulse duration past the end of the table, where 51_tape R632 is broken (log entry 21). -/
opaque Config.strayPulse : Nat → BitVec 32

/-- FREE VALUE, one per draw and register: an 8-bit register after a reset during a run (70_reset_and_hazards R881, R909;
log entry 2). -/
opaque Config.resetByte : Nat → Nat → Byte

/-- FREE VALUE, one per draw and register: a 16-bit register after a reset during a run (70_reset_and_hazards R881, R909;
log entry 2). -/
opaque Config.resetWord : Nat → Nat → Word

end Sys2Proof
end

