-- ==== Sys2Proof/Machine/State.lean ====
section
/-! DEFINITION. The state of the machine as plain data: every piece of state of 10_state R40 to R96, the parameters of the step,
the latched host requests, and the model's own counter of free values; the reasons to stop; and the state after reset. -/

namespace Sys2Proof.Machine

/-- Memory cells, sorted by key, none holding 0x00, which is what an unlisted cell reads as (log entries 3 and 4). The key is
`page * 16384 + offset`. -/
abbrev Memory := List Host.Cell

/-- The keys rise strictly from `lo` on, stay below `limit`, and no cell holds 0x00. -/
def cellsRise (limit : Nat) : Nat → Memory → Bool
  | _, [] => true
  | lo, (k, v) :: rest => decide (lo ≤ k) && decide (k < limit) && (v != 0) && cellsRise limit (k + 1) rest

/-- The canonical form of a memory of `limit` cells: keys strictly rising and below `limit`, no cell listed at 0x00. -/
def Memory.wf (limit : Nat) (m : Memory) : Bool := cellsRise limit 0 m

/-- The number of RAM cells, 8 pages of 16384 bytes (10_state R65). -/
def ramCells : Nat := 131072

/-- The number of ROM cells, the three pages ROM_128, ROM_48 and ROM_TRDOS in this order (00_scope R6). -/
def romCells : Nat := 49152

/-- Absolute time in T-states, 64 bits: the width of `T_total`, `edge_change` and `wd.next` (10_state R61, R77, R96), and, since all are
compared with `now()`, of every absolute time; sums wrap at it as 00_scope R11 says of registers (log entry 8). -/
abbrev Time := BitVec 64

/-- Interrupt mode (10_state R47). -/
inductive IntMode where
  | im0 | im1 | im2
deriving DecidableEq, Repr

/-- A logical block of a tape: host metadata (10_state R74). -/
structure TapeBlock where
  description : String
  offset : Nat
  total : Nat
deriving DecidableEq, Repr

/-- The Pulse Store and the tape playback state (10_state R72 to R80); `playPtr = none` is STOPPED; `end_ptr` is the length of
`image`. -/
structure Tape where
  pulses : List (BitVec 32)
  image : List Byte
  blocks : List TapeBlock
  playPtr : Option Nat
  resumePtr : Nat
  edgeChange : Time
  bit : Byte
  autostartArmed : Bool
deriving DecidableEq, Repr

/-- A Pulse Store that a loader hands over (51_tape R632, R665). -/
structure PulseStore where
  pulses : List (BitVec 32)
  image : List Byte
  blocks : List TapeBlock
deriving DecidableEq, Repr

/-- A track: each byte of `track_data` with its bit of `index_marks`; `trklen` is the length (10_state R83). -/
abbrev Track := List (Byte × Bool)

/-- Source image format of a disk, kept for the host's save-back (10_state R84, 00_scope R3). -/
inductive ImageFormat where
  | trd | scl | hob | fdi | td0 | udi | isd | pro
deriving DecidableEq, Repr

/-- A Track Store of one drive (10_state R82 to R84); track `cyl * sides + side` of `tracks`; `optype` bit 0 SECTOR_DIRTY,
bit 1 TRACK_FORMATTED. -/
structure Disk where
  present : Bool
  cyls : Nat
  sides : Nat
  tracks : List Track
  optype : Byte
  snaptype : ImageFormat
deriving DecidableEq, Repr

/-- The mechanics of one drive (10_state R85). -/
structure Drive where
  cyl : Nat
  motor : Time
deriving DecidableEq, Repr

/-- The states of the disk controller (10_state R90). -/
inductive WdState where
  | idle | wait | delayBeforeCmd | cmdRw | foundNextId | rdsec | read | wrsec | write | wrtrack | wrTrackData
  | type1Cmd | step | seekStart | seek | verify | reset
deriving DecidableEq, Repr

/-- The record of an ID field (52_wd1793 R702, R703). -/
structure Header where
  am : Nat
  c : Byte
  h : Byte
  r : Byte
  n : Byte
  idcrcOk : Bool
  hasData : Bool
  deleted : Bool
  datapos : Nat
deriving DecidableEq, Repr

/-- The WD1793 (10_state R90 to R96); `stepIn` says that `stepdirection` is +1, else it is -1. -/
structure Wd where
  state : WdState
  state2 : WdState
  cmd : Byte
  track : Byte
  sector : Byte
  data : Byte
  status : Byte
  system : Byte
  stepIn : Bool
  rwptr : Nat
  rwlen : Int
  rqs : Byte
  next : Time
  endWaitingAm : Time
  foundId : Option Header
  startCrc : Nat
deriving DecidableEq, Repr

/-- What a snapshot replaces (60_exceptions R868 `load_snapshot`). -/
structure Snapshot where
  a : Byte
  f : Byte
  b : Byte
  c : Byte
  d : Byte
  e : Byte
  h : Byte
  l : Byte
  aAlt : Byte
  fAlt : Byte
  bAlt : Byte
  cAlt : Byte
  dAlt : Byte
  eAlt : Byte
  hAlt : Byte
  lAlt : Byte
  ix : Word
  iy : Word
  sp : Word
  pc : Word
  i : Byte
  rLo : BitVec 7
  rHi : BitVec 1
  im : IntMode
  iff1 : Bool
  iff2 : Bool
  pFE : Byte
  p7FFD : Byte
  p1FFD : Byte
  ram : List Host.Cell
deriving DecidableEq, Repr

/-- A request the host has latched (60_exceptions R868; 51_tape R665; 52_wd1793 R754). -/
inductive HostRequest where
  | reset
  | startTape
  | stopTape
  | seekTape (pos : Nat)
  | loadTape (store : PulseStore)
  | loadDisk (d : BitVec 2) (store : Disk)
  | ejectDisk (d : BitVec 2)
  | loadSnapshot (snap : Snapshot)
  | keyboard (rows : List (Byte × BitVec 5))
deriving DecidableEq, Repr

/-- The reasons for a fault: none, since no instruction traps and no access fails (60_exceptions R830; log entry 29: safe). -/
inductive Fault where
deriving DecidableEq, Repr

/-- The reasons the model refuses a step. No instruction of the opcode table is refused. -/
inductive Refusal where
  /-- An instruction without a meaning yet, by its mnemonic; raised by `exec` only. Safe: the model stops. -/
  | notModelled (mnemonic : String)
  /-- Interrupt mode 0 with a bus byte that is no restart opcode (60_exceptions R844, 93_implementation_defined U4); raised by
  interrupt entry. Safe: the spec gives no effect. -/
  | im0BusByte
  /-- A Pulse Store that breaks 51_tape R632 (93_implementation_defined U9); raised by the `load_tape` request. Safe. -/
  | badPulseStore
  /-- A position outside `0..end_ptr` (51_tape R665); raised by the `seek_tape` request. Safe. -/
  | seekOutOfRange
  /-- A Track Store that breaks 10_state R82, R83 (93_implementation_defined U9); raised by the `load_disk` request. Safe. -/
  | badTrackStore
  /-- A disk change on the selected drive while the controller is busy (52_wd1793 R754, 93_implementation_defined U14); raised by
  the `load_disk` and `eject_disk` requests. Safe. -/
  | diskSwapWhileBusy
  /-- A passed-over prefix before a term that no prefix passes over: not an instruction, the decoder never yields it (log
  entry 20); raised by the two prefix meanings on an ill-formed term. Safe. -/
  | illFormedPrefix
deriving DecidableEq, Repr

/-- The state of the machine (10_state). -/
structure State where
  /-- Main register file (R40). -/
  a : Byte
  f : Byte
  b : Byte
  c : Byte
  d : Byte
  e : Byte
  h : Byte
  l : Byte
  /-- Alternate register file A' F' B' C' D' E' H' L' (R41). -/
  aAlt : Byte
  fAlt : Byte
  bAlt : Byte
  cAlt : Byte
  dAlt : Byte
  eAlt : Byte
  hAlt : Byte
  lAlt : Byte
  /-- Index registers (R42). -/
  ix : Word
  iy : Word
  /-- Stack pointer (R43). -/
  sp : Word
  /-- Program counter (R44). -/
  pc : Word
  /-- Interrupt vector register (R45). -/
  i : Byte
  /-- `R_lo` (R46). -/
  rLo : BitVec 7
  /-- `R_hi` (R46). -/
  rHi : BitVec 1
  /-- Interrupt mode (R47). -/
  im : IntMode
  /-- Interrupt flip-flops (R48). -/
  iff1 : Bool
  iff2 : Bool
  /-- Frame time of the last `EI` (R49). -/
  eiPos : Int
  /-- Frame time of the last `HALT` (R50). -/
  haltPos : Nat
  /-- The CPU waits for an interrupt (R51). -/
  halted : Bool
  /-- Frame-relative T-states (R60). -/
  t : Nat
  /-- `T_total` (R61). -/
  tTotal : Time
  /-- `frame_counter` (R62). -/
  frameCounter : Nat
  /-- RAM, 8 pages (R65). -/
  ram : Memory
  /-- The ROM pool, a parameter that no step changes (R66; log entry 4). -/
  rom : Memory
  /-- Paging latch (R67). -/
  p7FFD : Byte
  /-- Secondary paging latch, no effect (R68). -/
  p1FFD : Byte
  /-- TR-DOS paging is active (R69). -/
  dos : Bool
  /-- Last byte written to port 0xFE (R70). -/
  pFE : Byte
  /-- Tape (R72 to R80). -/
  tape : Tape
  /-- Track Stores of drives 0 to 3 (R82 to R84). -/
  disks : Four Disk
  /-- Drive mechanics (R85). -/
  drives : Four Drive
  /-- WD1793 (R90 to R96). -/
  wd : Wd
  /-- Keyboard input by the high byte of the port; a byte not listed reads 0x1F (00_scope R8). -/
  kbd : List (Byte × BitVec 5)
  /-- Latched host requests, oldest first (60_exceptions R868). -/
  requests : List HostRequest
  /-- The parameters of the step (R116, 00_scope R4 to R10). -/
  cfg : Config
  /-- The model's own: how many free values have been drawn (log entry 7). -/
  draws : Nat
deriving DecidableEq, Repr

/-- An empty drive (10_state R82; log entry 25). -/
def noDisk : Disk where
  present := false
  cyls := 0
  sides := 1
  tracks := []
  optype := 0
  snaptype := .trd

/-- The WD1793 after reset (10_state R114). -/
def wdReset : Wd where
  state := .reset
  state2 := .idle
  cmd := 0x03
  track := 0x00
  sector := 0x01
  data := 0x00
  status := 0x00
  system := 0x00
  stepIn := true
  rwptr := 0
  rwlen := 0
  rqs := 0
  next := 0
  endWaitingAm := 0
  foundId := none
  startCrc := 0

/-- The machine right after power-on reset (10_state R110 to R114; 70_reset_and_hazards R880 to R885). Registers the spec leaves
unspecified are zero (log entry 1), and the kept state is empty (log entries 3, 4, 25). -/
def State.reset : State where
  a := 0
  f := 0
  b := 0
  c := 0
  d := 0
  e := 0
  h := 0
  l := 0
  aAlt := 0
  fAlt := 0
  bAlt := 0
  cAlt := 0
  dAlt := 0
  eAlt := 0
  hAlt := 0
  lAlt := 0
  ix := 0
  iy := 0
  sp := 0
  pc := 0x0000
  i := 0x00
  rLo := 0
  rHi := 0
  im := .im0
  iff1 := false
  iff2 := false
  eiPos := -1
  haltPos := 0
  halted := false
  t := 0
  tTotal := 0
  frameCounter := 0
  ram := []
  rom := []
  p7FFD := 0x00
  p1FFD := 0x00
  dos := false
  pFE := 0x00
  tape := {
    pulses := []
    image := []
    blocks := []
    playPtr := none
    resumePtr := 0
    edgeChange := 0
    bit := 0x00
    autostartArmed := false }
  disks := ⟨noDisk, noDisk, noDisk, noDisk⟩
  drives := ⟨⟨0, 0⟩, ⟨0, 0⟩, ⟨0, 0⟩, ⟨0, 0⟩⟩
  wd := wdReset
  kbd := []
  requests := []
  cfg := Config.default
  draws := 0

end Sys2Proof.Machine
end

