-- ==== Sys2Proof/Machine/Ops.lean ====
section
/-! DEFINITION. The named operations over memory, registers, the Clock and the stack, the DOS-mode update, the frame wrap, and taking
an interrupt (00_scope R12 to R16; 10_state R55, R56; 20_memory R120 to R130; 60_exceptions R840 to R862). -/

namespace Sys2Proof.Machine

/-- The outcome of an instruction, a step or a boundary. -/
abbrev Result := Host.Outcome State Fault Refusal

/-- Continue with the next state, if there is one. -/
def andThen (r : Result) (g : State → Result) : Result :=
  match r with
  | .next s => g s
  | .fault e => .fault e
  | .refused e => .refused e

/-- The byte of a cell; an unlisted cell reads 0x00 (log entries 3 and 4: DESIGN CHOICE, unsafe). -/
def cellGet (m : Memory) (k : Nat) : Byte :=
  match m with
  | [] => 0
  | (k', v) :: rest => if k' = k then v else cellGet rest k

/-- Remove cell `k`. -/
def cellErase (m : Memory) (k : Nat) : Memory := m.filter (fun x => x.1 != k)

/-- Insert cell `k` before the first larger key. -/
def cellInsert (m : Memory) (k : Nat) (v : Byte) : Memory :=
  match m with
  | [] => [(k, v)]
  | x :: rest => if k < x.1 then (k, v) :: x :: rest else x :: cellInsert rest k v

/-- Give cell `k` the byte `v`, keeping the canonical form: a cell at 0x00 is not listed. -/
def cellSet (m : Memory) (k : Nat) (v : Byte) : Memory :=
  if v = 0 then cellErase m k else cellInsert (cellErase m k) k v

/-- The canonical memory holding the given cells below `limit`, a later cell winning. -/
def cellsOf (limit : Nat) (cells : List Host.Cell) : Memory :=
  cells.foldl (fun m x => if x.1 < limit then cellSet m x.1 x.2 else m) []

/-- The cell of offset `o` of a 16 KiB page (20_memory R124). -/
def cellKey (page : Nat) (o : BitVec 14) : Nat := page * 16384 + o.toNat

/-- Where a memory address leads: a cell of the ROM pool or of RAM. -/
inductive Place where
  | rom (key : Nat)
  | ram (key : Nat)
deriving DecidableEq, Repr

/-- The place is a cell of RAM, so a write has an effect (20_memory R127). -/
def Place.isRam (p : Place) : Bool :=
  match p with
  | .rom _ => false
  | .ram _ => true

/-- The ROM page of bank 0: 0 is ROM_128, 1 is ROM_48, 2 is ROM_TRDOS (20_memory R126). -/
def State.romPage (s : State) : Nat :=
  if s.dos then 2
  else if s.cfg.model48k then 1
  else if s.p7FFD.getLsbD 4 then 1
  else 0

/-- The bank map (20_memory R124, R125). -/
def State.place (s : State) (addr : Word) : Place :=
  let o := addr.extractLsb' 0 14
  match addr.extractLsb' 14 2 with
  | 0#2 => .rom (cellKey s.romPage o)
  | 1#2 => .ram (cellKey 5 o)
  | 2#2 => .ram (cellKey 2 o)
  | _ => .ram (cellKey (s.p7FFD.extractLsb' 0 3).toNat o)

/-- `MemRead(addr, 1)` (00_scope R14, 20_memory R125). -/
def State.memRead (s : State) (addr : Word) : Byte :=
  match s.place addr with
  | .rom k => cellGet s.rom k
  | .ram k => cellGet s.ram k

/-- `MemWrite(addr, 1, v)`; a write to ROM has no effect (00_scope R14, 20_memory R127). -/
def State.memWrite (s : State) (addr : Word) (v : Byte) : State :=
  match s.place addr with
  | .rom _ => s
  | .ram k => { s with ram := cellSet s.ram k v }

/-- `MemRead(addr, 2)` (00_scope R14). -/
def State.memRead16 (s : State) (addr : Word) : Word :=
  mkWord (s.memRead (addr + 1)) (s.memRead addr)

/-- `MemWrite(addr, 2, v)`, the low byte first (00_scope R14). -/
def State.memWrite16 (s : State) (addr v : Word) : State :=
  (s.memWrite addr (loByte v)).memWrite (addr + 1) (hiByte v)

/-- `Push16(v)`, the high byte first (41_load16_stack R260, 60_exceptions R847). -/
def State.push16 (s : State) (v : Word) : State :=
  let s1 := { s with sp := s.sp - 1 }
  let s2 := s1.memWrite s1.sp (hiByte v)
  let s3 := { s2 with sp := s2.sp - 1 }
  s3.memWrite s3.sp (loByte v)

/-- The value `Pop16()` returns (41_load16_stack R260). -/
def State.top16 (s : State) : Word := s.memRead16 s.sp

/-- `PC <- Pop16()` (41_load16_stack R260, 53_hooks_accel R815). -/
def State.popPC (s : State) : State := { s with pc := s.top16, sp := s.sp + 2 }

/-- The pair AF (00_scope R12). -/
def State.af (s : State) : Word := mkWord s.a s.f
/-- The pair BC (00_scope R12). -/
def State.bc (s : State) : Word := mkWord s.b s.c
/-- The pair DE (00_scope R12). -/
def State.de (s : State) : Word := mkWord s.d s.e
/-- The pair HL (00_scope R12). -/
def State.hl (s : State) : Word := mkWord s.h s.l

/-- `AF <- v` (00_scope R12). -/
def State.setAF (s : State) (v : Word) : State := { s with a := hiByte v, f := loByte v }
/-- `BC <- v` (00_scope R12). -/
def State.setBC (s : State) (v : Word) : State := { s with b := hiByte v, c := loByte v }
/-- `DE <- v` (00_scope R12). -/
def State.setDE (s : State) (v : Word) : State := { s with d := hiByte v, e := loByte v }
/-- `HL <- v` (00_scope R12). -/
def State.setHL (s : State) (v : Word) : State := { s with h := hiByte v, l := loByte v }

/-- The register of a 3-bit code (00_scope R12). -/
def State.reg (s : State) (r : Reg8) : Byte :=
  match r with
  | .b => s.b
  | .c => s.c
  | .d => s.d
  | .e => s.e
  | .h => s.h
  | .l => s.l
  | .a => s.a

/-- Write the register of a 3-bit code (00_scope R12). -/
def State.setReg (s : State) (r : Reg8) (v : Byte) : State :=
  match r with
  | .b => { s with b := v }
  | .c => { s with c := v }
  | .d => { s with d := v }
  | .e => { s with e := v }
  | .h => { s with h := v }
  | .l => { s with l := v }
  | .a => { s with a := v }

/-- The register pair `dd` or `ss` (00_scope R12). -/
def State.pairSP (s : State) (p : PairSP) : Word :=
  match p with
  | .bc => s.bc
  | .de => s.de
  | .hl => s.hl
  | .sp => s.sp

/-- Write the register pair `dd` or `ss` (00_scope R12). -/
def State.setPairSP (s : State) (p : PairSP) (v : Word) : State :=
  match p with
  | .bc => s.setBC v
  | .de => s.setDE v
  | .hl => s.setHL v
  | .sp => { s with sp := v }

/-- The register pair `qq` of PUSH (00_scope R12). -/
def State.pairAF (s : State) (p : PairAF) : Word :=
  match p with
  | .bc => s.bc
  | .de => s.de
  | .hl => s.hl
  | .af => s.af

/-- Write the register pair `qq` of POP (00_scope R12). -/
def State.setPairAF (s : State) (p : PairAF) (v : Word) : State :=
  match p with
  | .bc => s.setBC v
  | .de => s.setDE v
  | .hl => s.setHL v
  | .af => s.setAF v

/-- The absolute time `n` T-states after `time`, in 64 bits (10_state R61; 00_scope R11; log entry 8). -/
def later (time : Time) (n : Nat) : Time := time + BitVec.ofNat 64 n

/-- `now()`, absolute time (00_scope R16). -/
def State.now (s : State) : Time := later s.tTotal s.t

/-- The fetch of an instruction of `len` bytes with `m1` opcode fetches, and `n` T-states (10_state R55, R56; 00_scope R16). -/
def State.fetched (s : State) (len : Word) (m1 : BitVec 7) (n : Nat) : State :=
  { s with pc := s.pc + len, rLo := s.rLo + m1, t := s.t + n }

/-- The DOS-mode update before the first opcode byte is fetched (20_memory R130). -/
def State.dosUpdate (s : State) : State :=
  if s.cfg.trdosPresent && !s.dos && s.pc.extractLsb' 8 8 == 0x3D && (s.p7FFD.getLsbD 4 || s.cfg.model48k) then
    { s with dos := true }
  else if s.dos && 0x4000 ≤ s.pc.toNat then { s with dos := false }
  else s

/-- `cross_frame()` (60_exceptions R862). -/
def State.crossFrame (s : State) : State :=
  { s with
    tTotal := later s.tTotal s.cfg.frameLen
    t := s.t - s.cfg.frameLen
    eiPos := s.eiPos - s.cfg.frameLen
    frameCounter := s.frameCounter + 1 }

/-- `cross_frame()` performed `n` times. -/
def State.crossFrameTimes (s : State) (n : Nat) : State :=
  match n with
  | 0 => s
  | k + 1 => s.crossFrame.crossFrameTimes k

/-- `cross_frame()` while `t >= frame_len` (60_exceptions R860); the number of turns is `t / frame_len`, none when the parameter
`frame_len` is 0 (log entry 18). -/
def State.wrapFrames (s : State) : State := s.crossFrameTimes (s.t / s.cfg.frameLen)

/-- The acceptance test of the maskable interrupt (60_exceptions R840). -/
def State.acceptsInt (s : State) : Bool :=
  s.iff1 && s.cfg.intPos ≤ s.t && s.t < s.cfg.intPos + s.cfg.intLen && decide ((s.t : Int) ≠ s.eiPos) &&
    s.t + 10 < s.cfg.tpi

/-- The part of interrupt entry common to the modes (60_exceptions R843): a halted CPU resumes, both flip-flops are cleared,
one M1 is counted. -/
def State.intCommon (s : State) : State :=
  { s with halted := false, iff1 := false, iff2 := false, rLo := s.rLo + 1 }

/-- Entry by a restart: PC is pushed, PC goes to `target`, 13 T (60_exceptions R844, R845). -/
def State.intRestart (s : State) (target : Word) : State :=
  let s1 := s.intCommon
  let s2 := s1.push16 s1.pc
  { s2 with pc := target, t := s2.t + 13 }

/-- Entry through the vector table of mode 2, 19 T (60_exceptions R846). -/
def State.intVector (s : State) : State :=
  let s1 := s.intCommon
  let s2 := s1.push16 s1.pc
  { s2 with pc := s2.memRead16 (mkWord s2.i s2.cfg.intBusByte), t := s2.t + 19 }

/-- Interrupt entry (60_exceptions R843 to R847). Mode 0 with a bus byte that is no restart is refused (R844,
93_implementation_defined U4; log entry 11: safe). -/
def State.enterInt (s : State) : Result :=
  match s.im with
  | .im0 =>
    if s.cfg.intBusByte &&& 0xC7 = 0xC7 then .next (s.intRestart (mkWord 0 (s.cfg.intBusByte &&& 0x38)))
    else .refused .im0BusByte
  | .im1 => .next (s.intRestart 0x0038)
  | .im2 => .next s.intVector

/-- The CPU's response to a non-maskable interrupt (60_exceptions R850). The machine has no source, so no step calls it (log
entry 23: safe). -/
def State.enterNmi (s : State) : State :=
  let s1 := { s with halted := false, iff1 := false, rLo := s.rLo + 1 }
  let s2 := s1.push16 s1.pc
  { s2 with pc := 0x0066, t := s2.t + 11 }

/-- One halted cycle: 4 T, one M1, nothing fetched (44_general_cpu_control R408, 10_state R51). -/
def State.haltedCycle (s : State) : State := { s with rLo := s.rLo + 1, t := s.t + 4 }

/-- A fresh free value has been drawn (log entry 7). -/
def State.drawn (s : State) : State := { s with draws := s.draws + 1 }

end Sys2Proof.Machine
end

