-- ==== Sys2Proof/Machine/Disk.lean ====
section
/-! DEFINITION. The WD1793: geometry, time and checksums, the track as a byte stream, the state machine, the commands, the register
ports and the bulk transfers of the disk traps (52_wd1793 R690 to R761). -/

namespace Sys2Proof.Machine

/-! ### Status and request bits (10_state R92, R95) -/

/-- BUSY. -/
def stBusy : Byte := 0x01
/-- DRQ after a Type II or III command, INDEX after Type I. -/
def stDrq : Byte := 0x02
/-- LOST_DATA after Type II and III, TRACK00 after Type I. -/
def stLost : Byte := 0x04
/-- CRC_ERROR. -/
def stCrcErr : Byte := 0x08
/-- NOT_FOUND after Type II and III, SEEK_ERROR after Type I. -/
def stNotFound : Byte := 0x10
/-- RECORD_TYPE after a read, HEAD_LOADED after Type I. -/
def stRecordType : Byte := 0x20
/-- WRITE_PROTECTED. -/
def stWriteProt : Byte := 0x40
/-- NOT_READY. -/
def stNotReady : Byte := 0x80
/-- The DRQ bit of `wd.rqs`. -/
def rqDrq : Byte := 0x40
/-- The INTRQ bit of `wd.rqs`. -/
def rqIntrq : Byte := 0x80

/-! ### Geometry and time (52_wd1793 R690 to R692) -/

/-- The selected drive (52_wd1793 R690). -/
def State.driveSel (s : State) : BitVec 2 := s.wd.system.extractLsb' 0 2

/-- The selected side, the inverse of bit 4 of the system latch (52_wd1793 R690, 10_state R93). -/
def State.sideSel (s : State) : Nat := if s.wd.system.getLsbD 4 then 0 else 1

/-- The disk in the selected drive. -/
def State.curDisk (s : State) : Disk := s.disks.get s.driveSel

/-- The mechanics of the selected drive. -/
def State.curDrive (s : State) : Drive := s.drives.get s.driveSel

/-- The current track exists in the image (52_wd1793 R690). -/
def State.hasTrack (s : State) : Bool :=
  s.curDisk.present && s.curDrive.cyl < s.curDisk.cyls && s.sideSel < s.curDisk.sides

/-- The place of the current track in its disk's list (10_state R83). -/
def State.trackIndex (s : State) : Nat := s.curDrive.cyl * s.curDisk.sides + s.sideSel

/-- The current track, empty where the image has none (52_wd1793 R690). -/
def State.curTrack (s : State) : Track := if s.hasTrack then s.curDisk.tracks.getD s.trackIndex [] else []

/-- `trklen` of the current track. -/
def State.trkLen (s : State) : Nat := s.curTrack.length

/-- `REV_T` (52_wd1793 R691). DESIGN CHOICE: 0 where `FDD_RPS` is 0, as where it is above `Z80_CLOCK_HZ` (log entry 40). -/
def State.revT (s : State) : Nat := s.cfg.clockHz / s.cfg.fddRps

/-- `INDEX_T` (52_wd1793 R691). -/
def State.indexT (s : State) : Nat := s.cfg.clockHz * 4 / 1000

/-- `SETTLE_T`, 0 with `wd93_nodelay` (52_wd1793 R691). -/
def State.settleT (s : State) : Nat := if s.cfg.wd93Nodelay then 0 else s.cfg.clockHz * 15 / 1000

/-- `MOTOR_T` (52_wd1793 R691). -/
def State.motorT (s : State) : Nat := 2 * s.cfg.clockHz

/-- `STEP_T` of the step rate bits, 0 with `wd93_nodelay` (52_wd1793 R691). -/
def State.stepT (s : State) (rate : BitVec 2) : Nat :=
  if s.cfg.wd93Nodelay then 0
  else
    s.cfg.clockHz * (match rate with
      | 0#2 => 6
      | 1#2 => 12
      | 2#2 => 20
      | _ => 30) / 1000

/-- `ts_byte(cur)` (52_wd1793 R691); at least 1, where a track longer than `REV_T` would make it 0 (log entry 16). -/
def State.tsByte (s : State) : Nat := if s.trkLen = 0 then 112 else max 1 (s.revT / s.trkLen)

/-- `rot(cur)` (52_wd1793 R691). -/
def State.rot (s : State) : Nat := s.trkLen * s.tsByte

/-- `pos_at(T)` (52_wd1793 R692). -/
def State.posAt (s : State) (time : Time) : Nat := if s.trkLen = 0 then 0 else time.toNat % s.rot / s.tsByte

/-- `motor_on` of the selected drive at time `time` (52_wd1793 R692). -/
def State.motorOn (s : State) (time : Time) : Bool := time < s.curDrive.motor

/-- The wait for the start of the track from time `time`, 0 with `wd93_nodelay` (52_wd1793 R741, R749). DESIGN CHOICE: 0 also where
`trklen` is 0, so that `rot` is 0 and the rule's wait is taken mod 0 (log entry 33). -/
def State.waitIndex (s : State) (time : Time) : Nat :=
  if s.cfg.wd93Nodelay || s.trkLen = 0 then 0 else (s.rot - time.toNat % s.rot) % s.rot

/-! ### Checksums (52_wd1793 R693) -/

/-- One shift of the checksum register. -/
def crcBit (crc : Word) : Word := if crc.getLsbD 15 then (crc <<< 1) ^^^ 0x1021 else crc <<< 1

/-- The checksum register after one byte. -/
def crcByte (crc : Word) (b : Byte) : Word :=
  crcBit (crcBit (crcBit (crcBit (crcBit (crcBit (crcBit (crcBit (crc ^^^ mkWord b 0))))))))

/-- `crc16(init, bytes)`. -/
def crc16 (init : Word) (bytes : List Byte) : Word := bytes.foldl crcByte init

/-- `crc_am(bytes)`. -/
def crcAm (bytes : List Byte) : Word := crc16 0xCDB4 bytes

/-! ### The track (52_wd1793 R700 to R704) -/

/-- The first data mark among the next `count` positions of a suffix that starts at position `j`: `datapos` and the mark byte
(52_wd1793 R703). -/
def findMark (count : Nat) (suffix : Track) (j : Nat) : Option (Nat × Byte) :=
  match count, suffix with
  | n + 1, x :: y :: rest =>
    if x = (0xA1, true) && !y.2 && (y.1 = 0xFB || y.1 = 0xF8) then some (j + 2, y.1)
    else findMark n (y :: rest) (j + 1)
  | _, _ => none

/-- The length of the data field for size code `n` (52_wd1793 R703). -/
def dataLen (n : Byte) : Nat := 128 <<< (n &&& 3).toNat

/-- The header record of an ID field at position `am`; `rest` is the track from `am + 1` on (52_wd1793 R702, R703). DESIGN CHOICE: with
`has_data` 0, where the rule gives `datapos` and `deleted` no value, they are 0 and false if no mark is found, and the mark's own if the
field does not fit the track (log entry 41). -/
def makeHeader (trklen am : Nat) (rest : Track) : Header :=
  let byte k := (rest.getD k (0, false)).1
  let n := byte 4
  let mark := findMark 44 (rest.drop 7) (am + 8)
  let fits :=
    match mark with
    | some (dp, _) => decide (dp + dataLen n + 2 ≤ trklen)
    | none => false
  { am := am
    c := byte 1
    h := byte 2
    r := byte 3
    n := n
    idcrcOk := mkWord (byte 5) (byte 6) == crcAm [byte 0, byte 1, byte 2, byte 3, byte 4]
    hasData := fits
    deleted := match mark with
      | some (_, m) => m == 0xF8
      | none => false
    datapos := match mark with
      | some (dp, _) => dp
      | none => 0 }

/-- The ID fields of the part of a track from position `i` on (52_wd1793 R702). -/
def headersFrom (trklen : Nat) (suffix : Track) (i : Nat) : List Header :=
  match suffix with
  | [] => []
  | x :: rest =>
    if x = (0xA1, true) && i + 7 < trklen && (rest.getD 0 (0, false)).1 = 0xFE then
      makeHeader trklen i rest :: headersFrom trklen rest (i + 1)
    else headersFrom trklen rest (i + 1)

/-- `headers(cur)` of a track (52_wd1793 R702). -/
def headers (trk : Track) : List Header := headersFrom trk.length trk 0

/-- The bytes at positions `pos` to `pos + n - 1` of the current track; past its end, free values (52_wd1793 R703, R738; log
entry 15: safe). -/
def State.trackBytes (s : State) (pos n : Nat) : List Byte :=
  let got := ((s.curTrack.drop pos).take n).map Prod.fst
  got ++ (List.range (n - got.length)).map (fun k => Config.offTrackByte s.draws (pos + got.length + k))

/-- The byte at position `pos` of the current track; past its end, a free value (52_wd1793 R738; log entry 15: safe). -/
def State.trackByte (s : State) (pos : Nat) : Byte :=
  match s.curTrack[pos]? with
  | some x => x.1
  | none => Config.offTrackByte s.draws pos

/-- The bytes at positions `start` to `stop - 1`, taken mod `trklen` (52_wd1793 R740). -/
def State.trackBytesMod (s : State) (start stop : Nat) : List Byte :=
  (List.range (stop - start)).map (fun k => (s.curTrack.getD ((start + k) % s.trkLen) (0, false)).1)

/-- `datcrc_ok` of a header, on the track as it is (52_wd1793 R703). -/
def State.datCrcOk (s : State) (x : Header) : Bool :=
  let len := dataLen x.n
  let bytes := s.trackBytes x.datapos (len + 2)
  mkWord (bytes.getD len 0) (bytes.getD (len + 1) 0) == crcAm ((if x.deleted then 0xF8 else 0xFB) :: bytes.take len)

/-- `trk_write(pos, b, m)`; no effect where there is no track (52_wd1793 R700). -/
def State.trkWrite (s : State) (pos : Nat) (b : Byte) (m : Bool) : State :=
  if s.trkLen = 0 then s
  else
    let dk := s.curDisk
    let trk := s.curTrack.set (pos % s.trkLen) (b, m)
    { s with disks := s.disks.set s.driveSel { dk with tracks := dk.tracks.set s.trackIndex trk } }

/-- `trk_write` of a list of bytes from position `pos` on (52_wd1793 R739). -/
def State.trkWrites (s : State) (pos : Nat) (bytes : List (Byte × Bool)) : State :=
  match bytes with
  | [] => s
  | x :: rest => (s.trkWrite pos x.1 x.2).trkWrites (pos + 1) rest

/-- OR `bits` into `optype` of the selected disk (10_state R84). -/
def State.markDisk (s : State) (bits : Byte) : State :=
  { s with disks := s.disks.set s.driveSel { s.curDisk with optype := s.curDisk.optype ||| bits } }

/-! ### Commands by their top bits (52_wd1793 R731) -/

/-- A Type I command. -/
def isType1 (cmd : Byte) : Bool := !cmd.getLsbD 7
/-- Restore or Seek: `cmd[7:5] = 0`. -/
def isSeek (cmd : Byte) : Bool := cmd &&& 0xE0 == 0x00
/-- Read sector. -/
def isReadSector (cmd : Byte) : Bool := cmd &&& 0xE0 == 0x80
/-- Write sector. -/
def isWriteSector (cmd : Byte) : Bool := cmd &&& 0xE0 == 0xA0
/-- Read address. -/
def isReadAddress (cmd : Byte) : Bool := cmd &&& 0xF0 == 0xC0
/-- Force interrupt. -/
def isForceInt (cmd : Byte) : Bool := cmd &&& 0xF0 == 0xD0
/-- Write track. -/
def isWriteTrack (cmd : Byte) : Bool := cmd &&& 0xF0 == 0xF0

/-- `type1_form` of the status register (52_wd1793 R720). -/
def type1Form (cmd : Byte) : Bool := isType1 cmd || isForceInt cmd

/-! ### The states (52_wd1793 R721 to R749) -/

/-- `finish()` (52_wd1793 R721). -/
def Wd.finish (w : Wd) : Wd :=
  { w with state := .idle, status := w.status &&& ~~~stBusy, rqs := (w.rqs &&& rqDrq) ||| rqIntrq }

/-- Wait until `next`, then go on in state `st` (52_wd1793 R722). -/
def Wd.waitThen (w : Wd) (next : Time) (st : WdState) : Wd := { w with next := next, state2 := st, state := .wait }

/-- Raise DRQ in the requests and in the status register (52_wd1793 R734, R738). -/
def Wd.raiseDrq (w : Wd) : Wd := { w with rqs := w.rqs ||| rqDrq, status := w.status ||| stDrq }

/-- OR bits into the status register. -/
def Wd.setStatus (w : Wd) (bits : Byte) : Wd := { w with status := w.status ||| bits }

/-- DELAY_BEFORE_CMD (52_wd1793 R733). -/
def State.wdDelay (s : State) : State :=
  let w := { s.wd with status := (s.wd.status ||| stBusy) &&& ~~~0x7E }
  { s with wd := w.waitThen (if w.cmd.getLsbD 2 then later w.next s.settleT else w.next) .cmdRw }

/-- `match(x)` of the ID search (52_wd1793 R735). -/
def Wd.accepts (w : Wd) (x : Header) : Bool :=
  let sector := x.c == w.track && x.r == w.sector && (!w.cmd.getLsbD 1 || x.h.getLsbD 0 == w.cmd.getLsbD 3)
  if isType1 w.cmd then x.c == w.track
  else if isReadSector w.cmd then sector && x.hasData
  else if isWriteSector w.cmd then sector
  else true

/-- The visit of the headers: the first accepted one with a good checksum, and the status with CRC_ERROR where an accepted one
with a bad checksum was passed over (52_wd1793 R735). -/
def Wd.search (w : Wd) (hs : List Header) (status : Byte) : Option Header × Byte :=
  match hs with
  | [] => (none, status)
  | x :: rest =>
    if w.accepts x then
      if x.idcrcOk then (some x, status) else w.search rest (status ||| stCrcErr)
    else w.search rest status

/-- `find_id()` (52_wd1793 R735). -/
def State.findId (s : State) : State :=
  let w := s.wd
  let hs := headers s.curTrack
  let p0 := s.posAt w.next
  let order := hs.filter (fun x => decide (p0 < x.am)) ++ hs.filter (fun x => decide (x.am ≤ p0))
  match w.search order w.status with
  | (some x, status) =>
    let dist := if p0 < x.am then x.am - p0 else s.trkLen + x.am - p0
    let next := if s.cfg.wd93Nodelay then w.next else later w.next (dist * s.tsByte)
    { s with wd := { w with foundId := some x, status := status }.waitThen next .foundNextId }
  | (none, status) =>
    let next := if s.cfg.wd93Nodelay then w.next else w.endWaitingAm
    { s with wd := { w with foundId := none, status := status }.waitThen next .foundNextId }

/-- Start an ID search with its deadline (52_wd1793 R734 (b), R747). -/
def State.startSearch (s : State) : State :=
  { s with wd := { s.wd with endWaitingAm := later s.wd.next (s.cfg.seekRetryTurns * s.revT) } }.findId

/-- CMD_RW (52_wd1793 R734). -/
def State.wdCmdRw (s : State) : State :=
  let w := s.wd
  if (isWriteSector w.cmd || isWriteTrack w.cmd) && s.cfg.trdosWp.get s.driveSel then
    { s with wd := (w.setStatus stWriteProt).finish }
  else if isReadSector w.cmd || isWriteSector w.cmd || isReadAddress w.cmd then s.startSearch
  else if isWriteTrack w.cmd then
    { s with wd := w.raiseDrq.waitThen (later w.next (3 * s.tsByte)) .wrtrack }
  else
    { s with wd := { w with rwptr := 0, rwlen := (s.trkLen : Int) }.waitThen (later w.next (s.waitIndex w.next)) .read }

/-- FOUND_NEXT_ID (52_wd1793 R736). -/
def State.wdFound (s : State) : State :=
  match s.wd.foundId with
  | none => { s with wd := (s.wd.setStatus stNotFound).finish }
  | some x =>
    let w := { s.wd with status := s.wd.status &&& ~~~stCrcErr }
    if isType1 w.cmd then { s with wd := w.finish }
    else if isReadAddress w.cmd then { s with wd := { w with rwptr := x.am + 2, rwlen := 6, state := .read } }
    else if isWriteSector w.cmd then { s with wd := w.raiseDrq.waitThen (later w.next (9 * s.tsByte)) .wrsec }
    else
      let next := if s.cfg.wd93Nodelay then w.next else later w.next ((x.datapos - (x.am + 2)) * s.tsByte)
      { s with wd := w.waitThen next .rdsec }

/-- RDSEC (52_wd1793 R737). Without an ID, which no run reaches, the command ends (log entry 31). -/
def State.wdRdsec (s : State) : State :=
  match s.wd.foundId with
  | none => { s with wd := s.wd.finish }
  | some x =>
    { s with wd := { s.wd with
        rwptr := x.datapos
        rwlen := (dataLen x.n : Int)
        status := if x.deleted then s.wd.status ||| stRecordType else s.wd.status &&& ~~~stRecordType
        state := .read } }

/-- READ with a byte to stage (52_wd1793 R738). -/
def State.wdStage (s : State) : State :=
  let w := if s.wd.rqs &&& rqDrq = 0 then s.wd else s.wd.setStatus stLost
  let v := s.trackByte w.rwptr
  let w1 := { w with data := v, rwptr := w.rwptr + 1, rwlen := w.rwlen - 1 }.raiseDrq
  let s1 := { s with wd := w1.waitThen (later w1.next s.tsByte) .read }
  if s.wd.rwptr < s.trkLen then s1 else s1.drawn

/-- READ after the last byte (52_wd1793 R738). -/
def State.wdReadEnd (s : State) : State :=
  let w := s.wd
  if isReadSector w.cmd then
    let ok :=
      match w.foundId with
      | some x => s.datCrcOk x
      | none => true
    let inside :=
      match w.foundId with
      | some x => decide (x.datapos + dataLen x.n + 2 ≤ s.trkLen)
      | none => true
    let w1 := if ok then w else w.setStatus stCrcErr
    let w2 := if w.cmd.getLsbD 4 then { w1 with sector := w1.sector + 1, state := .cmdRw } else w1.finish
    if inside then { s with wd := w2 } else { s with wd := w2 }.drawn
  else if isReadAddress w.cmd then
    match w.foundId with
    | some x =>
      let w1 := { w with sector := x.c }
      { s with wd := (if x.idcrcOk then w1 else w1.setStatus stCrcErr).finish }
    | none => { s with wd := w.finish }
  else { s with wd := w.finish }

/-- READ (52_wd1793 R738). -/
def State.wdRead (s : State) : State := if 0 < s.wd.rwlen then s.wdStage else s.wdReadEnd

/-- The preamble of a data field with its mark byte (52_wd1793 R739). -/
def preamble (mark : Byte) : List (Byte × Bool) :=
  List.replicate 12 (0x00, false) ++ List.replicate 3 (0xA1, true) ++ [(mark, false)]

/-- WRSEC (52_wd1793 R739). Without an ID, which no run reaches, the command ends (log entry 31). -/
def State.wdWrsec (s : State) : State :=
  if s.wd.rqs &&& rqDrq ≠ 0 then { s with wd := (s.wd.setStatus stLost).finish }
  else
    match s.wd.foundId with
    | none => { s with wd := s.wd.finish }
    | some x =>
      let mark := if s.wd.cmd.getLsbD 0 then 0xF8 else 0xFB
      let s1 := (s.markDisk 0x01).trkWrites (x.am + 30) (preamble mark)
      { s1 with wd := { s1.wd with
          rwptr := x.am + 30 + 16
          startCrc := x.am + 30 + 15
          rwlen := (dataLen x.n : Int)
          state := .write } }

/-- A late byte of a write is 0x00 with LOST_DATA (52_wd1793 R740, R742). -/
def Wd.takeByte (w : Wd) : Wd :=
  if w.rqs &&& rqDrq = 0 then w else { w.setStatus stLost with data := 0x00 }

/-- WRITE (52_wd1793 R740). -/
def State.wdWrite (s : State) : State :=
  let w := s.wd.takeByte
  let s1 := s.trkWrite w.rwptr w.data false
  let w1 := { w with rwptr := w.rwptr + 1, rwlen := w.rwlen - 1 }
  if 0 < w1.rwlen then { s1 with wd := w1.raiseDrq.waitThen (later w1.next s.tsByte) .write }
  else
    let k := crcAm (s1.trackBytesMod w1.startCrc w1.rwptr)
    let s2 := s1.trkWrites w1.rwptr [(hiByte k, false), (loByte k, false), (0xFF, false)]
    let w2 := { w1 with rwptr := w1.rwptr + 3 }
    if w2.cmd.getLsbD 4 then { s2 with wd := { w2 with sector := w2.sector + 1, state := .cmdRw } }
    else { s2 with wd := w2.finish }

/-- WRTRACK (52_wd1793 R741). -/
def State.wdWrtrack (s : State) : State :=
  let w := s.wd
  if w.rqs &&& rqDrq ≠ 0 then { s with wd := (w.setStatus stLost).finish }
  else if s.trkLen = 0 then { s with wd := (w.setStatus stNotFound).finish }
  else
    let s1 := s.markDisk 0x02
    let w1 := { w with rwptr := 0, rwlen := (s.trkLen : Int), startCrc := 0 }
    { s1 with wd := w1.waitThen (later w.next (s.waitIndex w.next)) .wrTrackData }

/-- The bytes that a data byte of write track puts on the track (52_wd1793 R742). DESIGN CHOICE: the positions `start_crc .. rwptr - 1`
of 0xF7 are taken mod `trklen`, as R740 takes them, where a change of drive or side has left them past the new track (log entry 34). -/
def State.formatBytes (s : State) (w : Wd) : List (Byte × Bool) :=
  if w.data = 0xF5 then [(0xA1, true)]
  else if w.data = 0xF6 then [(0xC2, true)]
  else if w.data = 0xF7 then
    let k := crcAm (s.trackBytesMod w.startCrc w.rwptr)
    [(hiByte k, false), (loByte k, false)]
  else [(w.data, false)]

/-- WR_TRACK_DATA (52_wd1793 R742). -/
def State.wdWrTrackData (s : State) : State :=
  let w := s.wd.takeByte
  let bytes := s.formatBytes w
  let s1 := s.trkWrites w.rwptr bytes
  let w1 := { w with
    startCrc := if w.data = 0xF5 then w.rwptr + 1 else w.startCrc
    rwptr := w.rwptr + bytes.length
    rwlen := w.rwlen - bytes.length }
  if 0 < w1.rwlen then { s1 with wd := w1.raiseDrq.waitThen (later w1.next (s.tsByte * bytes.length)) .wrTrackData }
  else { s1 with wd := w1.finish }

/-- TYPE1_CMD (52_wd1793 R743). -/
def State.wdType1 (s : State) : State :=
  let w := s.wd
  let w1 := { w with
    status := (w.status ||| stBusy) &&& ~~~(stDrq ||| stCrcErr ||| stNotFound ||| stWriteProt)
    rqs := 0 }
  if isSeek w.cmd then { s with wd := { w1 with state := .seekStart } }
  else { s with wd := { w1 with
      stepIn := if w.cmd.getLsbD 6 then !w.cmd.getLsbD 5 else w.stepIn
      state := .step } }

/-- SEEKSTART (52_wd1793 R744). -/
def State.wdSeekStart (s : State) : State :=
  let w := s.wd
  if w.cmd &&& 0xF0 = 0x00 then { s with wd := { w with track := 0xFF, data := 0x00, state := .seek } }
  else { s with wd := { w with state := .seek } }

/-- SEEK (52_wd1793 R745). -/
def State.wdSeek (s : State) : State :=
  let w := s.wd
  if w.data = w.track then { s with wd := { w with state := .verify } }
  else { s with wd := { w with stepIn := !decide (w.data < w.track), state := .step } }

/-- STEP (52_wd1793 R746). -/
def State.wdStep (s : State) : State :=
  let w := s.wd
  let dr := s.curDrive
  if dr.cyl = 0 && !w.stepIn then { s with wd := { w with track := 0, state := .verify } }
  else
    let track := if w.stepIn then w.track + 1 else w.track - 1
    let w1 := if isSeek w.cmd || w.cmd.getLsbD 4 then { w with track := track } else w
    let cyl := min s.cfg.maxPhysCyl (if w.stepIn then dr.cyl + 1 else dr.cyl - 1)
    { s with
      drives := s.drives.set s.driveSel { dr with cyl := cyl }
      wd := w1.waitThen (later w.next (s.stepT (w.cmd.extractLsb' 0 2))) (if isSeek w.cmd then .seek else .verify) }

/-- VERIFY (52_wd1793 R747). -/
def State.wdVerify (s : State) : State :=
  if s.wd.cmd.getLsbD 2 then s.startSearch else { s with wd := s.wd.finish }

/-- One turn of the loop of `process()` at time `time`; none where the loop ends (52_wd1793 R720, R722). -/
def State.wdTurn (s : State) (time : Time) : Option State :=
  match s.wd.state with
  | .idle => none
  | .reset => none
  | .wait => if time < s.wd.next then none else some { s with wd := { s.wd with state := s.wd.state2 } }
  | .delayBeforeCmd => some s.wdDelay
  | .cmdRw => some s.wdCmdRw
  | .foundNextId => some s.wdFound
  | .rdsec => some s.wdRdsec
  | .read => some s.wdRead
  | .wrsec => some s.wdWrsec
  | .write => some s.wdWrite
  | .wrtrack => some s.wdWrtrack
  | .wrTrackData => some s.wdWrTrackData
  | .type1Cmd => some s.wdType1
  | .step => some s.wdStep
  | .seekStart => some s.wdSeekStart
  | .seek => some s.wdSeek
  | .verify => some s.wdVerify

/-- The loop of `process()` (52_wd1793 R720). -/
def State.wdLoop (fuel : Nat) (time : Time) (s : State) : State :=
  match fuel with
  | 0 => s
  | n + 1 =>
    match s.wdTurn time with
    | none => s
    | some s1 => State.wdLoop n time s1

/-- The status register with bit `mask` at `b`. -/
def withBit (status mask : Byte) (b : Bool) : Byte := if b then status ||| mask else status &&& ~~~mask

/-- The live bits of the status register in Type I form (52_wd1793 R692, R720). DESIGN CHOICE: with `REV_T` 0, where `T mod REV_T` has no
value in the spec, the index test takes `T` itself (log entry 40). -/
def State.type1Status (s : State) (time : Time) : Byte :=
  let s0 := withBit s.wd.status stDrq
    (s.curDisk.present && s.motorOn time && decide (time.toNat % s.revT < s.indexT))
  let s1 := withBit s0 stLost (decide (s.curDrive.cyl = 0))
  let s2 := withBit s1 stRecordType (s.motorOn time && s.wd.system.getLsbD 3)
  withBit s2 stWriteProt (s.cfg.trdosWp.get s.driveSel)

/-- More turns than the loop of `process()` can take before `next` passes the present time, whatever 64-bit times they are (52_wd1793
R720; log entry 17). -/
def wdFuel : Nat := 8 * 2 ^ 64 + 4096

/-- `process()` (52_wd1793 R720). -/
def State.wdProcess (s : State) : State :=
  if s.wd.state = .reset then s
  else
    let time := s.now
    let w := { s.wd with status := withBit s.wd.status stNotReady (!s.curDisk.present) }
    let s1 := State.wdLoop wdFuel time { s with wd := w }
    if type1Form s1.wd.cmd then { s1 with wd := { s1.wd with status := s1.type1Status time } } else s1

/-! ### Commands and registers (52_wd1793 R712 to R718, R730, R732) -/

/-- Force interrupt (52_wd1793 R732). -/
def State.wdForceInt (s : State) (v : Byte) : State :=
  let w := s.wd
  let w1 :=
    if w.status &&& stBusy ≠ 0 then { w with state := .idle, status := w.status &&& ~~~stBusy }
    else { w with cmd := v, status := w.status &&& stNotReady }
  { s with wd := { w1 with rqs := if v.getLsbD 3 then rqIntrq else 0 } }

/-- Acceptance of a Type I, II or III command (52_wd1793 R730 (4)). -/
def State.wdAccept (s : State) (v : Byte) : State :=
  let w := { s.wd with cmd := v, status := s.wd.status ||| stBusy, rqs := 0, next := s.now }
  let drives := s.drives.set s.driveSel { s.curDrive with motor := later s.now s.motorT }
  let w1 :=
    if v.getLsbD 7 then
      if w.status &&& stNotReady ≠ 0 then w.finish else { w with state := .delayBeforeCmd }
    else { w with state := .type1Cmd }
  { s with drives := drives, wd := w1 }

/-- Write of the command register (52_wd1793 R730). -/
def State.wdCommand (s : State) (v : Byte) : State :=
  if s.wd.state = .reset then s
  else if isForceInt v then s.wdForceInt v
  else if s.wd.status &&& stBusy ≠ 0 then s
  else s.wdAccept v

/-- Withdraw DRQ after an access to the data register (52_wd1793 R715, R716). -/
def Wd.dropDrq (w : Wd) : Wd :=
  { w with
    rqs := w.rqs &&& ~~~rqDrq
    status := if type1Form w.cmd then w.status else w.status &&& ~~~stDrq }

/-- Write of the system port (52_wd1793 R718). -/
def State.wdSystem (s : State) (v : Byte) : State :=
  let old := s.wd.system
  let w := { s.wd with system := v }
  if !v.getLsbD 2 then
    { s with wd := { w with state := .reset, cmd := 0x03, sector := 0x01, status := 0x00, rqs := 0, rwlen := 0 } }
  else if !old.getLsbD 2 then
    { s with wd := { w with cmd := 0x03, status := stBusy, next := s.now, state := .type1Cmd } }
  else { s with wd := w }

/-- The read of a controller port after `process()` (20_memory R148; 52_wd1793 R712 to R717). -/
def State.wdReadReg (s : State) (lo : Byte) : Byte × State :=
  if lo = 0x1F then (s.wd.status, { s with wd := { s.wd with rqs := s.wd.rqs &&& ~~~rqIntrq } })
  else if lo = 0x3F then (s.wd.track, s)
  else if lo = 0x5F then (s.wd.sector, s)
  else if lo = 0x7F then (s.wd.data, { s with wd := s.wd.dropDrq })
  else (s.wd.rqs ||| 0x3F, s)

/-- The write of a controller port after `process()` (20_memory R148; 52_wd1793 R713 to R718, R730). -/
def State.wdWriteReg (s : State) (lo v : Byte) : State :=
  if lo = 0x1F then s.wdCommand v
  else if lo = 0x3F then { s with wd := { s.wd with track := v } }
  else if lo = 0x5F then { s with wd := { s.wd with sector := v } }
  else if lo = 0x7F then { s with wd := { s.wd with data := v }.dropDrq }
  else s.wdSystem v

/-! ### Bulk transfers (52_wd1793 R760, R761) -/

/-- `put(v)` of disk trap T4 (53_hooks_accel R819). -/
def State.putByte (s : State) (v : Byte) : State :=
  let s1 := s.memWrite s.hl v
  { s1.setHL (s1.hl + 1) with b := s1.b - 1 }

/-- The loop of `wd_bulk_read`, `n` bytes (52_wd1793 R760). -/
def State.bulkRead (n : Nat) (s : State) : State :=
  match n with
  | 0 => s
  | k + 1 =>
    let s1 := s.putByte (s.trackByte s.wd.rwptr)
    let s2 := if s.wd.rwptr < s.trkLen then s1 else s1.drawn
    State.bulkRead k { s2 with wd := { s2.wd with rwptr := s2.wd.rwptr + 1, rwlen := s2.wd.rwlen - 1 } }

/-- `wd_bulk_read(put)` (52_wd1793 R760). -/
def State.wdBulkRead (s : State) : State :=
  let s1 :=
    if s.wd.rqs &&& rqDrq = 0 then s
    else
      let p := s.putByte s.wd.data
      { p with wd := { p.wd with rqs := p.wd.rqs &&& ~~~rqDrq, status := p.wd.status &&& ~~~stDrq } }
  State.bulkRead s1.wd.rwlen.toNat s1

/-- The loop of `wd_bulk_write`, `n` bytes, with `get()` of disk trap T5 (52_wd1793 R761, 53_hooks_accel R820). -/
def State.bulkWrite (n : Nat) (s : State) : State :=
  match n with
  | 0 => s
  | k + 1 =>
    let s1 := s.trkWrite s.wd.rwptr (s.memRead s.hl) false
    let s2 := { s1.setHL (s1.hl + 1) with
      b := s1.b - 1
      wd := { s1.wd with rwptr := s1.wd.rwptr + 1, rwlen := s1.wd.rwlen - 1 } }
    State.bulkWrite k s2

/-- `wd_bulk_write(get)` (52_wd1793 R761). -/
def State.wdBulkWrite (s : State) : State := State.bulkWrite (s.wd.rwlen - 1).toNat s

/-! ### Track Stores (10_state R82, R83) -/

/-- A Track Store a loader may hand over: 1 or 2 sides and a track for each (cylinder, side) (10_state R82, R83). -/
def Disk.wf (dk : Disk) : Bool :=
  (dk.sides == 1 || dk.sides == 2) && dk.tracks.length == dk.cyls * dk.sides

/-- A sector of the reference layout as a loader leaves it, gap 3 included (52_wd1793 R701, R704). -/
def referenceSector (c h r n : Byte) (gap3 : Nat) (deleted : Bool) (bytes : List Byte) : Track :=
  let plain (bs : List Byte) : Track := bs.map (fun b => (b, false))
  let sync : Track := List.replicate 12 (0x00, false) ++ List.replicate 3 (0xA1, true)
  let idf : List Byte := [0xFE, c, h, r, n]
  let dat : List Byte := (if deleted then 0xF8 else 0xFB) :: bytes
  sync ++ plain idf ++ plain [hiByte (crcAm idf), loByte (crcAm idf)] ++ plain (List.replicate 22 0x4E) ++ sync ++ plain dat ++
    plain [hiByte (crcAm dat), loByte (crcAm dat)] ++ plain (List.replicate gap3 0x4E)

end Sys2Proof.Machine
end

