-- ==== Sys2Proof/Machine/Tape.lean ====
section
/-! DEFINITION. The tape: playback, start and stop, the pulse-stream decoder of the ROM trap, and the loader-side rules of the Pulse
Store (51_tape R630 to R673). Notifications to the sound collaborator are a sink and are not modelled (log entry 22). -/

namespace Sys2Proof.Machine

/-- `SENTINEL`, the stop marker (10_state R72, 51_tape R631). -/
def sentinel : BitVec 32 := 0xFFFFFFFF

/-- `pulses[image[i]]`; an index past the table is a free value (51_tape R632, 93_implementation_defined U9; log entry 21). -/
def Tape.pulseAt (tp : Tape) (i : Nat) : BitVec 32 :=
  let idx := (tp.image.getD i 0).toNat
  match tp.pulses[idx]? with
  | some p => p
  | none => Config.strayPulse idx

/-- `stop_tape()` (51_tape R662). -/
def Tape.stop (tp : Tape) : Tape :=
  match tp.playPtr with
  | none => tp
  | some p => { tp with playPtr := none, resumePtr := p }

/-- `start_tape()` at absolute time `now` (51_tape R664). -/
def Tape.start (tp : Tape) (now : Time) : Tape :=
  if tp.playPtr.isNone && tp.resumePtr < tp.image.length then
    { tp with autostartArmed := false, playPtr := some tp.resumePtr, edgeChange := now }
  else { tp with autostartArmed := false }

/-- The loop of `tape_bit()` at absolute time `now`; `fuel` bounds the number of edges (51_tape R660). -/
def Tape.edges (fuel : Nat) (now : Time) (tp : Tape) : Tape :=
  match fuel with
  | 0 => tp
  | n + 1 =>
    match tp.playPtr with
    | none => tp
    | some p =>
      if now < tp.edgeChange then tp
      else
        let tp1 := { tp with bit := tp.bit ^^^ 0xFF }
        if tp.image.length ≤ p then tp1.stop
        else
          let d := tp.pulseAt p
          let tp2 := { tp1 with playPtr := some (p + 1) }
          if d = sentinel || p + 1 = tp.image.length then tp2.stop
          else Tape.edges n now { tp2 with edgeChange := later tp2.edgeChange d.toNat }

/-- `tape_bit()`: the level, and the machine with the tape caught up (51_tape R660). Each turn of the loop consumes an element of
`image`, so the fuel suffices. -/
def State.tapeBit (s : State) : Byte × State :=
  let tp := s.tape.edges (s.tape.image.length + 1) s.now
  (tp.bit, { s with tape := tp })

/-- `take_pulse()`; none is END (51_tape R670). -/
def Tape.takePulse (tp : Tape) : Option Nat × Tape :=
  match tp.playPtr with
  | none => (none, tp)
  | some p =>
    if tp.image.length ≤ p then (none, tp)
    else
      let d := tp.pulseAt p
      let tp1 := { tp with playPtr := some (p + 1) }
      if d = sentinel then (none, tp1) else (some d.toNat, tp1)

/-- The first loop of `skip_pilot()`: consume pulses until one is at most 770; false is FAIL (51_tape R671). -/
def Tape.skipLong (fuel : Nat) (tp : Tape) : Bool × Tape :=
  match fuel with
  | 0 => (false, tp)
  | n + 1 =>
    match tp.takePulse with
    | (none, tp1) => (false, tp1)
    | (some p, tp1) => if p ≤ 770 then (true, tp1) else Tape.skipLong n tp1

/-- `skip_pilot()`; false is FAIL (51_tape R671). -/
def Tape.skipPilot (tp : Tape) : Bool × Tape :=
  match tp.skipLong (tp.image.length + 1) with
  | (false, tp1) => (false, tp1)
  | (true, tp1) =>
    match tp1.takePulse with
    | (none, tp2) => (false, tp2)
    | (some _, tp2) => (true, tp2)

/-- The loop of `decode_byte()` over the bit masks still to come (51_tape R672). -/
def Tape.decodeBits (masks : List Byte) (acc : Byte) (tp : Tape) : Option Byte × Tape :=
  match masks with
  | [] => (some acc, tp)
  | m :: rest =>
    match tp.takePulse with
    | (none, tp1) => (none, tp1)
    | (some p1, tp1) =>
      match tp1.takePulse with
      | (none, tp2) => (none, tp2)
      | (some _, tp2) => Tape.decodeBits rest (if 1240 < p1 then acc ||| m else acc) tp2

/-- `decode_byte()`; none is FAIL (51_tape R672). -/
def Tape.decodeByte (tp : Tape) : Option Byte × Tape :=
  tp.decodeBits [0x80, 0x40, 0x20, 0x10, 0x08, 0x04, 0x02, 0x01] 0

/-- The tape after a machine reset (51_tape R662, 10_state R113, 70_reset_and_hazards R883). -/
def Tape.afterReset (tp : Tape) : Tape :=
  { tp.stop with
    playPtr := none
    bit := 0x00
    edgeChange := 0
    autostartArmed := !tp.image.isEmpty }

/-- A Pulse Store that satisfies 51_tape R632. -/
def PulseStore.wf (store : PulseStore) : Bool :=
  store.pulses.length ≤ 256 && store.image.all (fun b => decide (b.toNat < store.pulses.length))

/-- `load_tape(store)` (51_tape R665). -/
def Tape.load (tp : Tape) (store : PulseStore) : Tape :=
  { tp with
    pulses := store.pulses
    image := store.image
    blocks := store.blocks
    playPtr := none
    resumePtr := 0
    autostartArmed := !store.image.isEmpty }

/-- `seek_tape(pos)` (51_tape R665). -/
def Tape.seekTo (tp : Tape) (pos : Nat) : Tape := { tp.stop with resumePtr := pos }

/-- The first index of a pulse equal to `d`, counting from `k` (51_tape R640). -/
def findPulse (pulses : List (BitVec 32)) (d : BitVec 32) (k : Nat) : Option Nat :=
  match pulses with
  | [] => none
  | p :: rest => if p = d then some k else findPulse rest d (k + 1)

/-- The lowest index among the durations nearest to `d`, the stop marker apart; `best` is the index and the distance found so far
(51_tape R640). -/
def nearestPulse (pulses : List (BitVec 32)) (d : BitVec 32) (k : Nat) (best : Option (Nat × Nat)) : Option (Nat × Nat) :=
  match pulses with
  | [] => best
  | p :: rest =>
    let dist := (p.toNat - d.toNat) + (d.toNat - p.toNat)
    let better :=
      match best with
      | none => true
      | some (_, old) => decide (dist < old)
    nearestPulse rest d (k + 1) (if p ≠ sentinel && better then some (k, dist) else best)

/-- Intern a duration: the index and the store after it; the loader's only way to enter one (51_tape R640). -/
def PulseStore.intern (store : PulseStore) (d : BitVec 32) : Nat × PulseStore :=
  match findPulse store.pulses d 0 with
  | some k => (k, store)
  | none =>
    if store.pulses.length < 256 then (store.pulses.length, { store with pulses := store.pulses ++ [d] })
    else
      match nearestPulse store.pulses d 0 none with
      | some (k, _) => (k, store)
      | none => (0, store)

/-- Intern a duration and append its index to the image (51_tape R640, R641). -/
def PulseStore.append (store : PulseStore) (d : BitVec 32) : PulseStore :=
  let p := store.intern d
  { p.2 with image := p.2.image ++ [BitVec.ofNat 8 p.1] }

/-- Append a list of durations in order (51_tape R641). -/
def PulseStore.appendAll (store : PulseStore) (ds : List (BitVec 32)) : PulseStore :=
  ds.foldl PulseStore.append store

/-- The 16 pulses of a byte, bit 7 first, two per bit (51_tape R650). -/
def bytePulses (v : Byte) : List (BitVec 32) :=
  [7, 6, 5, 4, 3, 2, 1, 0].flatMap (fun k => List.replicate 2 (if v.getLsbD k then 1710 else 855))

/-- The pulses of a TAP block with bytes `bs`: pilot, two syncs, data, pause, marker (51_tape R650). DESIGN CHOICE: a block of length 0
has no first byte and takes the pilot of 3220 (log entry 36). DESIGN CHOICE: the pause of `Z80_CLOCK_HZ` T-states is taken mod 2^32, so
that 2^32 - 1 becomes the stop marker, where the clock rate is beyond what an entry can hold (log entry 39). -/
def blockPulses (clockHz : Nat) (bs : List Byte) : List (BitVec 32) :=
  List.replicate (if (bs.headD 0xFF).toNat < 4 then 8064 else 3220) 2168 ++ [667, 735] ++ bs.flatMap bytePulses ++
    [BitVec.ofNat 32 clockHz, sentinel]

/-- `makeblock`: append a TAP block and its metadata record (51_tape R641, R650). DESIGN CHOICE: the total T-states of the record are the
sum of the durations asked for, the pause among them and the marker not, also where a full table holds a nearest one (log entry
37). -/
def PulseStore.makeBlock (store : PulseStore) (clockHz : Nat) (description : String) (bs : List Byte) : PulseStore :=
  let ds := blockPulses clockHz bs
  let out := store.appendAll ds
  { out with
    blocks := store.blocks ++ [{
      description := description
      offset := store.image.length
      total := (ds.dropLast.map BitVec.toNat).sum }] }

/-- The blocks of a TAP file with bytes `file`: each a length of 16 bits, low byte first, and so many bytes (51_tape R650); none where
the file ends inside a block (log entry 38). Each turn consumes two bytes, so a fuel of the length of the file suffices. -/
def tapBlocksFrom (fuel : Nat) (file : List Byte) : Option (List (List Byte)) :=
  match fuel, file with
  | _, [] => some []
  | n + 1, lo :: hi :: rest =>
    let len := (mkWord hi lo).toNat
    if rest.length < len then none else (tapBlocksFrom n (rest.drop len)).map (fun bs => rest.take len :: bs)
  | _, _ => none

/-- The blocks of a TAP file (51_tape R650). -/
def tapBlocks (file : List Byte) : Option (List (List Byte)) := tapBlocksFrom file.length file

/-- A block as it stands in a TAP file, its length before its bytes (51_tape R650). -/
def tapRecord (bs : List Byte) : List Byte :=
  let len := BitVec.ofNat 16 bs.length
  loByte len :: hiByte len :: bs

/-- The TAP file of a list of blocks (51_tape R650, R652). -/
def tapFile (blocks : List (List Byte)) : List Byte := blocks.flatMap tapRecord

/-- The Pulse Store with nothing in it (51_tape R630). -/
def PulseStore.empty : PulseStore where
  pulses := []
  image := []
  blocks := []

/-- `makeblock` for a list of blocks in order, `describe` giving the host's description of each (51_tape R650). -/
def PulseStore.makeBlocks (store : PulseStore) (clockHz : Nat) (describe : List Byte → String) (blocks : List (List Byte)) :
    PulseStore :=
  blocks.foldl (fun st bs => st.makeBlock clockHz (describe bs) bs) store

/-- The Pulse Store of a TAP file, which the host hands to `load_tape`; none is the loader's report of a file that is no TAP file, and
no store is built (51_tape R642, R650, R665; log entry 38). -/
def loadTap (clockHz : Nat) (describe : List Byte → String) (file : List Byte) : Option PulseStore :=
  (tapBlocks file).map (PulseStore.empty.makeBlocks clockHz describe)

/-- The bits of a stream of data pulses, up to the first pair that is no bit (51_tape R650). -/
def pulseBits (ds : List (BitVec 32)) : List Bool :=
  match ds with
  | p :: q :: rest =>
    if p = 855 && q = 855 then false :: pulseBits rest
    else if p = 1710 && q = 1710 then true :: pulseBits rest
    else []
  | _ => []

/-- The bytes of a stream of bits, bit 7 first (51_tape R650). -/
def bitBytes (bs : List Bool) : List Byte :=
  match bs with
  | b7 :: b6 :: b5 :: b4 :: b3 :: b2 :: b1 :: b0 :: rest =>
    let v : Byte :=
      BitVec.ofBool b7 ++ BitVec.ofBool b6 ++ BitVec.ofBool b5 ++ BitVec.ofBool b4 ++ BitVec.ofBool b3 ++ BitVec.ofBool b2 ++
        BitVec.ofBool b1 ++ BitVec.ofBool b0
    v :: bitBytes rest
  | _ => []

/-- The bytes of the block that a pulse stream in canonical timings begins with: the pilot and the two syncs are passed over and the
data ends at the pause (51_tape R650, R652). -/
def pulseBlock (ds : List (BitVec 32)) : List Byte := bitBytes (pulseBits ((ds.dropWhile (fun d => d == 2168)).drop 2))

/-- The TAP file that a Pulse Store in canonical timings encodes, a block for each record of `blocks[]` (51_tape R652). -/
def PulseStore.toTap (store : PulseStore) : List Byte :=
  tapFile (store.blocks.map (fun b =>
    pulseBlock ((store.image.drop b.offset).map (fun i => store.pulses.getD i.toNat sentinel))))

end Sys2Proof.Machine
end

