-- ==== Sys2Proof/Machine/Ports.lean ====
section
/-! DEFINITION. The I/O space: the port decode and the effect of each port (20_memory R139 to R148; 52_wd1793 R710). -/

namespace Sys2Proof.Machine

/-- The low byte names a WD1793 or system port (20_memory R140 line (1)). -/
def isDiskPort (lo : Byte) : Bool := lo = 0x1F || lo = 0x3F || lo = 0x5F || lo = 0x7F || lo = 0xFF

/-- The disk ports respond (20_memory R140 line (1)). -/
def State.diskResponds (s : State) (p : Word) : Bool := s.cfg.trdosPresent && s.dos && isDiskPort (loByte p)

/-- `kbd(hi)` (00_scope R8). -/
def State.kbdRows (s : State) (hi : Byte) : BitVec 5 :=
  match s.kbd.find? (fun x => x.1 = hi) with
  | some x => x.2
  | none => 0x1F

/-- The autostart of a port 0xFE read (20_memory R141 (1), 51_tape R666). -/
def State.autostart (s : State) : State :=
  if s.cfg.tapeAutostart && s.tape.autostartArmed && s.tape.playPtr.isNone && 0 < s.tape.image.length then
    { s with tape := s.tape.start s.now }
  else s

/-- Read of port 0xFE (20_memory R141). -/
def State.readFE (s : State) (p : Word) : Byte × State :=
  let r := s.autostart.tapeBit
  ((0b111#3 ++ s.kbdRows (hiByte p)) &&& (0xBF ||| (r.1 &&& 0x40)), r.2)

/-- `PortRead(p)` (20_memory R140; 52_wd1793 R710). -/
def State.portRead (s : State) (p : Word) : Byte × State :=
  if s.diskResponds p then s.wdProcess.wdReadReg (loByte p)
  else if loByte p = 0xFE then s.readFE p
  else (0xFF, s)

/-- Write of port 0x7FFD; with `MODEL_48K` it is ignored by the parameter (20_memory R143). DESIGN CHOICE: the lock bit that 00_scope R6
holds set with `MODEL_48K` is not written into bit 5 of `p7FFD`, which stays as stored: 0 after reset (10_state R112), the snapshot's
after `load_snapshot` (log entry 35). -/
def State.write7FFD (s : State) (v : Byte) : State :=
  if s.cfg.model48k || s.p7FFD.getLsbD 5 then s else { s with p7FFD := v }

/-- `PortWrite(p, v)` (20_memory R140 to R144; 52_wd1793 R710). -/
def State.portWrite (s : State) (p : Word) (v : Byte) : State :=
  if s.diskResponds p then (s.wdProcess.wdWriteReg (loByte p) v).wdProcess
  else if loByte p = 0xFE then { s with pFE := v }
  else if p = 0x7FFD then s.write7FFD v
  else if p = 0x1FFD then { s with p1FFD := v }
  else s

/-- `t` when an instruction that started at `t0` samples its port, for `IN A,(n)` and `OUT (n),A` (20_memory R139). -/
def ioDelayImm : Nat := 7
/-- The same for `IN r,(C)`, `OUT (C),r` and their undocumented forms (20_memory R139). -/
def ioDelayC : Nat := 8
/-- The same for the block inputs (20_memory R139). -/
def ioDelayBlockIn : Nat := 9
/-- The same for the block outputs (20_memory R139). -/
def ioDelayBlockOut : Nat := 12

/-- Read port `p` at `delay` T-states into an instruction of `total` T-states; the state before is the one with the instruction
fetched and no time added (20_memory R139). -/
def State.portReadAt (s : State) (p : Word) (delay total : Nat) : Byte × State :=
  let r := { s with t := s.t + delay }.portRead p
  (r.1, { r.2 with t := s.t + total })

/-- Write port `p` at `delay` T-states into an instruction of `total` T-states (20_memory R139). -/
def State.portWriteAt (s : State) (p : Word) (v : Byte) (delay total : Nat) : State :=
  { { s with t := s.t + delay }.portWrite p v with t := s.t + total }

end Sys2Proof.Machine
end

