-- ==== Sys2Proof/Machine/Hook.lean ====
section
/-! DEFINITION. The instruction-boundary hook: the tape ROM trap, the pattern accelerator and the disk traps (53_hooks_accel R790 to
R821). -/

namespace Sys2Proof.Machine

/-! ### Tape ROM trap (53_hooks_accel R795 to R799) -/

/-- The data loop over `n` bytes; false is a failure (53_hooks_accel R795, R796). -/
def State.trapData (n : Nat) (s : State) : Bool × State :=
  match n with
  | 0 => (true, s)
  | k + 1 =>
    match s.tape.decodeByte with
    | (none, tp) => (false, { s with tape := tp })
    | (some v, tp) =>
      let s1 := { s with tape := tp, l := v }.memWrite s.ix v
      State.trapData k ({ s1 with ix := s1.ix + 1 }.setDE (s1.de - 1))

/-- The trap's byte read into L; false is a failure (53_hooks_accel R795). -/
def State.trapByte (s : State) : Bool × State :=
  match s.tape.decodeByte with
  | (none, tp) => (false, { s with tape := tp })
  | (some v, tp) => (true, { s with tape := tp, l := v })

/-- The trap's work up to its verdict: the pilot, the flag byte, the data loop, the checksum byte (53_hooks_accel R795). The data
loop runs `((DE - 1) mod 65536) + 1` times (R796). -/
def State.trapRun (s : State) : Bool × State :=
  match s.tape.skipPilot with
  | (false, tp) => (false, { s with tape := tp })
  | (true, tp) =>
    match { s with tape := tp }.trapByte with
    | (false, s1) => (false, s1)
    | (true, s1) =>
      match State.trapData ((s1.de - 1).toNat + 1) s1 with
      | (false, s2) => (false, s2)
      | (true, s2) => s2.trapByte

/-- Success of the tape trap (53_hooks_accel R797, R798). -/
def State.trapSucceed (s : State) : State :=
  { s.setBC 0xB001 with
    pc := 0x05DF
    f := s.f ||| 0x01
    h := 0
    tape := { s.tape with edgeChange := s.now } }

/-- Failure of the tape trap (53_hooks_accel R799). -/
def State.trapFail (s : State) : State := { s with pc := 0x05E2, tape := s.tape.stop }

/-- The tape ROM trap (53_hooks_accel R795). -/
def State.tapeTrap (s : State) : State :=
  if s.tape.playPtr.isSome && s.cfg.tapeTraps && s.pc == 0x056B then
    match s.trapRun with
    | (true, s1) => s1.trapSucceed
    | (false, s1) => s1.trapFail
  else s

/-! ### Pattern accelerator (53_hooks_accel R802 to R807) -/

/-- `m[i]`, the byte at `PC + i` (53_hooks_accel R802). -/
def State.codeByte (s : State) (i : Nat) : Byte := s.memRead (s.pc + BitVec.ofNat 16 i)

/-- The loop `3D 20 FD` (53_hooks_accel R803). -/
def State.atDecJr (s : State) : Bool := s.codeByte 0 = 0x3D && s.codeByte 1 = 0x20 && s.codeByte 2 = 0xFD

/-- The loop `10 FE` (53_hooks_accel R804). -/
def State.atDjnz (s : State) : Bool := s.codeByte 0 = 0x10 && s.codeByte 1 = 0xFE

/-- The loop `3D C2 ll hh` (53_hooks_accel R807). -/
def State.atDecJp (s : State) : Bool :=
  s.codeByte 0 = 0x3D && s.codeByte 1 = 0xC2 && s.codeByte 2 = loByte s.pc && s.codeByte 3 = hiByte s.pc

/-- A delay loop on A whose iteration takes `cycles` (53_hooks_accel R803, R807). -/
def State.skipA (s : State) (cycles : Nat) : State := { s with t := s.t + (s.a - 1).toNat * cycles, a := 1 }

/-- A delay loop on B (53_hooks_accel R804). -/
def State.skipB (s : State) (cycles : Nat) : State := { s with t := s.t + (s.b - 1).toNat * cycles, b := 1 }

/-- The record matches the code at PC (53_hooks_accel R805). -/
def State.atPattern (s : State) (p : EdgePattern) : Bool :=
  (List.range p.len).all (fun i => s.codeByte i &&& p.mask.getD i 0 == p.expected.getD i 0)

/-- `edge_poll(rec)`; B reaches the timeout within 255 passes, so 256 turns suffice (53_hooks_accel R805). -/
def State.edgePoll (fuel : Nat) (p : EdgePattern) (s : State) : State :=
  match fuel with
  | 0 => s
  | n + 1 =>
    if s.b = p.bTimeout then s
    else
      let r := s.tapeBit
      if (r.1 ^^^ s.c) &&& p.bitMask ≠ 0 then r.2
      else
        State.edgePoll n p { r.2 with b := if p.bUp then s.b + 1 else s.b - 1, t := s.t + p.cycles }

/-- The pattern accelerator (53_hooks_accel R802). -/
def State.accelerate (s : State) : State :=
  if s.tape.playPtr.isSome && !s.cfg.soundEnabled then
    if s.atDecJr then s.skipA 16
    else if s.atDjnz then s.skipB 13
    else if s.atDecJp then s.skipA 14
    else
      match s.cfg.edgePatterns.find? s.atPattern with
      | some p => s.edgePoll 256 p
      | none => s
  else s

/-! ### Disk traps (53_hooks_accel R814 to R820) -/

/-- `rom[ROM_TRDOS][o]` (53_hooks_accel R814). -/
def State.trdosByte (s : State) (o : BitVec 14) : Byte := cellGet s.rom (cellKey 2 o)

/-- The controller is in `st`, or waits to be (52_wd1793 R760, R761). -/
def Wd.under (w : Wd) (st : WdState) : Bool := w.state == st || (w.state == .wait && w.state2 == st)

/-- The condition of trap T4 (53_hooks_accel R819). -/
def State.atT4 (s : State) : Bool := s.pc == 0x3FEC && s.trdosByte 0x3FED == 0xA2 && s.wd.under .read

/-- The condition of trap T5 (53_hooks_accel R820). -/
def State.atT5 (s : State) : Bool :=
  s.pc == 0x3FD1 && s.trdosByte 0x3FD2 == 0xA3 && s.wd.under .write && s.wd.rqs &&& rqDrq != 0 && decide (1 < s.wd.rwlen)

/-- `PC <- PC + 2` after a bulk transfer (53_hooks_accel R819, R820). -/
def State.skipTwo (s : State) : State := { s with pc := s.pc + 2 }

/-- The disk traps (53_hooks_accel R814 to R820). -/
def State.diskTrap (s : State) : State :=
  if s.cfg.trdosPresent && s.dos && s.cfg.trdosTraps then
    if s.pc == 0x3DFD && s.trdosByte 0x3DFD == 0x3E then { s.popPC with a := 0, c := 0 }
    else if s.pc == 0x3EA0 && s.trdosByte 0x3EA0 == 0x06 then { s.popPC with a := 0, b := 0 }
    else if s.pc == 0x3E01 && s.trdosByte 0x3E01 == 0x0D then { s with a := 1, c := 1 }
    else if s.atT4 then s.wdBulkRead.skipTwo
    else if s.atT5 then s.wdBulkWrite.skipTwo
    else s
  else s

/-- The hook: the three accelerators, each on the state the previous one left (53_hooks_accel R790). -/
def State.hook (s : State) : State := s.tapeTrap.accelerate.diskTrap

end Sys2Proof.Machine
end

