-- ==== Sys2Proof/Machine/Boundary.lean ====
section
/-! DEFINITION. The instruction boundary: latched host requests, the hook, the frame wrap (60_exceptions R860 to R868;
70_reset_and_hazards R880 to R886); and the fetch of the bytes of an instruction. -/

namespace Sys2Proof.Machine

/-- The registers a reset leaves unspecified become free values (70_reset_and_hazards R881, R909; log entry 2: safe). -/
def State.freeRegisters (s : State) : State :=
  let n := s.draws
  { s.drawn with
    a := Config.resetByte n 0
    f := Config.resetByte n 1
    b := Config.resetByte n 2
    c := Config.resetByte n 3
    d := Config.resetByte n 4
    e := Config.resetByte n 5
    h := Config.resetByte n 6
    l := Config.resetByte n 7
    aAlt := Config.resetByte n 8
    fAlt := Config.resetByte n 9
    bAlt := Config.resetByte n 10
    cAlt := Config.resetByte n 11
    dAlt := Config.resetByte n 12
    eAlt := Config.resetByte n 13
    hAlt := Config.resetByte n 14
    lAlt := Config.resetByte n 15
    ix := Config.resetWord n 0
    iy := Config.resetWord n 1
    sp := Config.resetWord n 2 }

/-- The motor of a drive after reset; the head does not move (10_state R114). -/
def Drive.motorOff (dr : Drive) : Drive := { dr with motor := 0 }

/-- The `reset` request (70_reset_and_hazards R880 to R885). -/
def State.hardReset (s : State) : State :=
  { s.freeRegisters with
    pc := 0x0000
    i := 0x00
    rLo := 0
    rHi := 0
    im := .im0
    iff1 := false
    iff2 := false
    halted := false
    eiPos := -1
    haltPos := 0
    t := 0
    tTotal := 0
    frameCounter := 0
    p7FFD := 0x00
    p1FFD := 0x00
    dos := false
    pFE := 0x00
    tape := s.tape.afterReset
    wd := wdReset
    drives := ⟨s.drives.d0.motorOff, s.drives.d1.motorOff, s.drives.d2.motorOff, s.drives.d3.motorOff⟩ }

/-- The `load_snapshot` request (60_exceptions R868). The RAM cells are put in canonical form. DESIGN CHOICE: a cell of RAM that the
snapshot does not hold, as in a 48K snapshot, becomes 0x00 (log entry 28). -/
def State.loadSnapshot (s : State) (x : Snapshot) : State :=
  { s with
    a := x.a
    f := x.f
    b := x.b
    c := x.c
    d := x.d
    e := x.e
    h := x.h
    l := x.l
    aAlt := x.aAlt
    fAlt := x.fAlt
    bAlt := x.bAlt
    cAlt := x.cAlt
    dAlt := x.dAlt
    eAlt := x.eAlt
    hAlt := x.hAlt
    lAlt := x.lAlt
    ix := x.ix
    iy := x.iy
    sp := x.sp
    pc := x.pc
    i := x.i
    rLo := x.rLo
    rHi := x.rHi
    im := x.im
    iff1 := x.iff1
    iff2 := x.iff2
    pFE := x.pFE
    p7FFD := x.p7FFD
    p1FFD := x.p1FFD
    ram := cellsOf ramCells x.ram
    halted := false
    dos := false
    eiPos := -1 }

/-- A disk change on drive `d` would hit the selected drive while the controller is busy (52_wd1793 R754). -/
def State.swapsBusy (s : State) (d : BitVec 2) : Bool := d = s.driveSel && s.wd.status &&& stBusy != 0

/-- One host request (60_exceptions R868; 51_tape R665; 52_wd1793 R754; 70_reset_and_hazards R880). A request that breaks its
precondition is refused (log entries 12 and 13: safe). -/
def State.perform (s : State) (r : HostRequest) : Result :=
  match r with
  | .reset => .next s.hardReset
  | .startTape => .next { s with tape := s.tape.start s.now }
  | .stopTape => .next { s with tape := s.tape.stop }
  | .seekTape pos =>
    if pos ≤ s.tape.image.length then .next { s with tape := s.tape.seekTo pos } else .refused .seekOutOfRange
  | .loadTape store =>
    if store.wf then .next { s with tape := s.tape.load store } else .refused .badPulseStore
  | .loadDisk d store =>
    if !store.wf then .refused .badTrackStore
    else if s.swapsBusy d then .refused .diskSwapWhileBusy
    else .next { s with disks := s.disks.set d { store with present := true } }
  | .ejectDisk d =>
    if s.swapsBusy d then .refused .diskSwapWhileBusy
    else .next { s with disks := s.disks.set d noDisk }
  | .loadSnapshot snap => .next (s.loadSnapshot snap)
  | .keyboard rows => .next { s with kbd := rows }

/-- A list of host requests in the order the host issued them (60_exceptions R860 (1)). -/
def State.performAll (s : State) (rs : List HostRequest) : Result :=
  match rs with
  | [] => .next s
  | r :: rest => andThen (s.perform r) (fun s1 => s1.performAll rest)

/-- The host requests pending at a boundary (60_exceptions R860 (1), R868). -/
def State.takeRequests (s : State) : Result := { s with requests := [] }.performAll s.requests

/-- `boundary`: host requests, hook, frame wrap (60_exceptions R860). -/
def boundary (s : State) : Result := andThen s.takeRequests (fun s1 => .next s1.hook.wrapFrames)

/-- The launch boundary, with which a run begins before its first `exec`: after reset, after a snapshot load, or after the host placed
the CPU (00_scope R18; 60_exceptions R860; 70_reset_and_hazards R886; log entry 9). -/
def launch (s : State) : Result := boundary s

/-- The instruction whose bytes start at PC, read through the bank map (10_state R55; 30_encoding R170). -/
def State.fetchInstr (s : State) : Instr :=
  decode4 (s.memRead s.pc) (s.memRead (s.pc + 1)) (s.memRead (s.pc + 2)) (s.memRead (s.pc + 3))

end Sys2Proof.Machine
end

