-- ==== Sys2Proof/Machine/Flags.lean ====
section
/-! DEFINITION. The flag register and every flag computation: the flag bits (00_scope R13, 10_state R52 to R54), 8-bit arithmetic and
logic (43_alu8 R331 to R334), DAA (44_general_cpu_control R401), 16-bit arithmetic (45_alu16 R420 to R423), shifts
(46_rotate_shift R441, 50_undocumented R578), BIT (47_bit R490), and block input and output (49_io R540). -/

namespace Sys2Proof.Machine

/-- The flag register from its eight bits, bit 7 first (00_scope R13). -/
def flagByte (sf zf yf hf xf pf nf cf : Bool) : Byte :=
  BitVec.ofBool sf ++ BitVec.ofBool zf ++ BitVec.ofBool yf ++ BitVec.ofBool hf ++ BitVec.ofBool xf ++ BitVec.ofBool pf ++
    BitVec.ofBool nf ++ BitVec.ofBool cf

/-- Sign flag, F[7]. -/
def flagS (f : Byte) : Bool := f.getLsbD 7
/-- Zero flag, F[6]. -/
def flagZ (f : Byte) : Bool := f.getLsbD 6
/-- YF, F[5]. -/
def flagY (f : Byte) : Bool := f.getLsbD 5
/-- Half carry flag, F[4]. -/
def flagH (f : Byte) : Bool := f.getLsbD 4
/-- XF, F[3]. -/
def flagX (f : Byte) : Bool := f.getLsbD 3
/-- Parity and overflow flag, F[2]. -/
def flagP (f : Byte) : Bool := f.getLsbD 2
/-- Add and subtract flag, F[1]. -/
def flagN (f : Byte) : Bool := f.getLsbD 1
/-- Carry flag, F[0]. -/
def flagC (f : Byte) : Bool := f.getLsbD 0

/-- `parity(v)`: an even number of 1 bits (00_scope R11). -/
def parity (v : Byte) : Bool :=
  !(v.getLsbD 0 ^^ v.getLsbD 1 ^^ v.getLsbD 2 ^^ v.getLsbD 3 ^^ v.getLsbD 4 ^^ v.getLsbD 5 ^^ v.getLsbD 6 ^^ v.getLsbD 7)

/-- The condition of a code `ccc` (10_state R54). -/
def State.cond (s : State) (cc : Cond) : Bool :=
  match cc with
  | .nz => !flagZ s.f
  | .z => flagZ s.f
  | .nc => !flagC s.f
  | .c => flagC s.f
  | .po => !flagP s.f
  | .pe => flagP s.f
  | .p => !flagS s.f
  | .m => flagS s.f

/-- `add8(a, b, c)`: the result and the flags (43_alu8 R331). -/
def add8 (a b : Byte) (c : Bool) : Byte × Byte :=
  let sum := a.toNat + b.toNat + c.toNat
  let res := BitVec.ofNat 8 sum
  (res, flagByte (res.getLsbD 7) (res == 0) (res.getLsbD 5) (0x0F < (a &&& 0x0F).toNat + (b &&& 0x0F).toNat + c.toNat)
    (res.getLsbD 3) ((~~~(a ^^^ b) &&& (a ^^^ res)).getLsbD 7) false (255 < sum))

/-- `sub8(a, b, c)`: the result and the flags (43_alu8 R332). -/
def sub8 (a b : Byte) (c : Bool) : Byte × Byte :=
  let diff : Int := (a.toNat : Int) - b.toNat - c.toNat
  let res := BitVec.ofInt 8 diff
  (res, flagByte (res.getLsbD 7) (res == 0) (res.getLsbD 5)
    (decide (((a &&& 0x0F).toNat : Int) - (b &&& 0x0F).toNat - c.toNat < 0))
    (res.getLsbD 3) (((a ^^^ b) &&& (a ^^^ res)).getLsbD 7) true (decide (diff < 0)))

/-- The flags of `logic8` for a result; `h` is 1 for AND, 0 for OR and XOR (43_alu8 R333). -/
def logicFlags (h : Bool) (res : Byte) : Byte :=
  flagByte (res.getLsbD 7) (res == 0) (res.getLsbD 5) h (res.getLsbD 3) (parity res) false false

/-- `inc8(v)` with the old F for CF (43_alu8 R334). -/
def inc8 (v f : Byte) : Byte × Byte :=
  let res := v + 1
  (res, flagByte (res.getLsbD 7) (res == 0) (res.getLsbD 5) (v &&& 0x0F == 0x0F) (res.getLsbD 3) (v == 0x7F) false (flagC f))

/-- `dec8(v)` with the old F for CF (43_alu8 R334). -/
def dec8 (v f : Byte) : Byte × Byte :=
  let res := v - 1
  (res, flagByte (res.getLsbD 7) (res == 0) (res.getLsbD 5) (v &&& 0x0F == 0x00) (res.getLsbD 3) (v == 0x80) true (flagC f))

/-- `ADD A,v` (43_alu8 R336). -/
def State.addA (s : State) (v : Byte) : State := { s with a := (add8 s.a v false).1, f := (add8 s.a v false).2 }

/-- `ADC A,v` (43_alu8 R341). -/
def State.adcA (s : State) (v : Byte) : State :=
  { s with a := (add8 s.a v (flagC s.f)).1, f := (add8 s.a v (flagC s.f)).2 }

/-- `SUB v` (43_alu8 R346). -/
def State.subA (s : State) (v : Byte) : State := { s with a := (sub8 s.a v false).1, f := (sub8 s.a v false).2 }

/-- `SBC A,v` (43_alu8 R351). -/
def State.sbcA (s : State) (v : Byte) : State :=
  { s with a := (sub8 s.a v (flagC s.f)).1, f := (sub8 s.a v (flagC s.f)).2 }

/-- `AND v` (43_alu8 R356). -/
def State.andA (s : State) (v : Byte) : State := { s with a := s.a &&& v, f := logicFlags true (s.a &&& v) }

/-- `XOR v` (43_alu8 R366). -/
def State.xorA (s : State) (v : Byte) : State := { s with a := s.a ^^^ v, f := logicFlags false (s.a ^^^ v) }

/-- `OR v` (43_alu8 R361). -/
def State.orA (s : State) (v : Byte) : State := { s with a := s.a ||| v, f := logicFlags false (s.a ||| v) }

/-- `CP v`: the flags of `sub8(A, v, 0)`, but YF and XF from the operand (43_alu8 R371). -/
def State.cpA (s : State) (v : Byte) : State :=
  let f := (sub8 s.a v false).2
  { s with f := flagByte (flagS f) (flagZ f) (v.getLsbD 5) (flagH f) (v.getLsbD 3) (flagP f) (flagN f) (flagC f) }

/-- `DAA`: the new A and F (44_general_cpu_control R401). -/
def daaResult (a f : Byte) : Byte × Byte :=
  let low := flagH f || 9 < (a &&& 0x0F).toNat
  let high := flagC f || 0x99 < a.toNat
  let corr : Byte := (if low then 0x06 else 0x00) ||| (if high then 0x60 else 0x00)
  let res := if flagN f then a - corr else a + corr
  let h := if flagN f then flagH f && (a &&& 0x0F).toNat < 6 else 9 < (a &&& 0x0F).toNat
  (res, flagByte (res.getLsbD 7) (res == 0) (res.getLsbD 5) h (res.getLsbD 3) (parity res) (flagN f) high)

/-- Flags of `LD A,I` and `LD A,R` for the loaded byte (40_load8 R238). -/
def loadIRFlags (v : Byte) (iff2 : Bool) (f : Byte) : Byte :=
  flagByte (v.getLsbD 7) (v == 0) (v.getLsbD 5) false (v.getLsbD 3) iff2 false (flagC f)

/-- Flags of `IN r,(C)` for the byte read (49_io R542) and of RLD and RRD for the new A (46_rotate_shift R474). -/
def parityFlags (v f : Byte) : Byte :=
  flagByte (v.getLsbD 7) (v == 0) (v.getLsbD 5) false (v.getLsbD 3) (parity v) false (flagC f)

/-- `ADD HL,ss` and its index forms: the result and the flags (45_alu16 R420, R421). -/
def add16 (a b : Word) (f : Byte) : Word × Byte :=
  let sum := a.toNat + b.toNat
  let res := BitVec.ofNat 16 sum
  (res, flagByte (flagS f) (flagZ f) (res.getLsbD 13) (0x0FFF < (a &&& 0x0FFF).toNat + (b &&& 0x0FFF).toNat)
    (res.getLsbD 11) (flagP f) false (0xFFFF < sum))

/-- `ADC HL,ss`: the result and the flags (45_alu16 R422). -/
def adc16 (a b : Word) (c : Bool) : Word × Byte :=
  let sum := a.toNat + b.toNat + c.toNat
  let res := BitVec.ofNat 16 sum
  (res, flagByte (res.getLsbD 15) (res == 0) (res.getLsbD 13)
    (0x0FFF < (a &&& 0x0FFF).toNat + (b &&& 0x0FFF).toNat + c.toNat)
    (res.getLsbD 11) ((~~~(a ^^^ b) &&& (a ^^^ res)).getLsbD 15) false (0xFFFF < sum))

/-- `SBC HL,ss`: the result and the flags (45_alu16 R423). -/
def sbc16 (a b : Word) (c : Bool) : Word × Byte :=
  let diff : Int := (a.toNat : Int) - b.toNat - c.toNat
  let res := BitVec.ofInt 16 diff
  (res, flagByte (res.getLsbD 15) (res == 0) (res.getLsbD 13)
    (decide (((a &&& 0x0FFF).toNat : Int) - (b &&& 0x0FFF).toNat - c.toNat < 0))
    (res.getLsbD 11) (((a ^^^ b) &&& (a ^^^ res)).getLsbD 15) true (decide (diff < 0)))

/-- `rlc`: the result and the carry out (46_rotate_shift R441). -/
def shRlc (v : Byte) (_ : Bool) : Byte × Bool := (v.extractLsb' 0 7 ++ v.extractLsb' 7 1, v.getLsbD 7)
/-- `rrc` (46_rotate_shift R441). -/
def shRrc (v : Byte) (_ : Bool) : Byte × Bool := (v.extractLsb' 0 1 ++ v.extractLsb' 1 7, v.getLsbD 0)
/-- `rl` (46_rotate_shift R441). -/
def shRl (v : Byte) (c : Bool) : Byte × Bool := (v.extractLsb' 0 7 ++ BitVec.ofBool c, v.getLsbD 7)
/-- `rr` (46_rotate_shift R441). -/
def shRr (v : Byte) (c : Bool) : Byte × Bool := (BitVec.ofBool c ++ v.extractLsb' 1 7, v.getLsbD 0)
/-- `sla` (46_rotate_shift R441). -/
def shSla (v : Byte) (_ : Bool) : Byte × Bool := (v.extractLsb' 0 7 ++ 0#1, v.getLsbD 7)
/-- `sra` (46_rotate_shift R441). -/
def shSra (v : Byte) (_ : Bool) : Byte × Bool := (v.extractLsb' 7 1 ++ v.extractLsb' 1 7, v.getLsbD 0)
/-- `srl` (46_rotate_shift R441). -/
def shSrl (v : Byte) (_ : Bool) : Byte × Bool := (0#1 ++ v.extractLsb' 1 7, v.getLsbD 0)
/-- The undocumented shift left with bit 0 set (50_undocumented R578). -/
def shSll (v : Byte) (_ : Bool) : Byte × Bool := (v.extractLsb' 0 7 ++ 1#1, v.getLsbD 7)

/-- `shift_flags(res, co)` (46_rotate_shift R441). -/
def shiftFlags (res : Byte) (co : Bool) : Byte :=
  flagByte (res.getLsbD 7) (res == 0) (res.getLsbD 5) false (res.getLsbD 3) (parity res) false co

/-- `acc_rot_flags`: SF, ZF, PF kept (46_rotate_shift R441). -/
def accRotFlags (res : Byte) (co : Bool) (f : Byte) : Byte :=
  flagByte (flagS f) (flagZ f) (res.getLsbD 5) false (res.getLsbD 3) (flagP f) false co

/-- `bit_flags(b, v, yx)` with the old F for CF (47_bit R490). -/
def bitFlags (b : BitVec 3) (v yx f : Byte) : Byte :=
  let set := v.getLsbD b.toNat
  flagByte (b == 7 && v.getLsbD 7) (!set) (yx.getLsbD 5) true (yx.getLsbD 3) (!set) false (flagC f)

/-- Flags of the block moves: SF, ZF, CF kept, PF says that the new BC is not 0, YF and XF from `n = A + v` (42_exchange_block
R307). -/
def moveFlags (a v : Byte) (bc : Word) (f : Byte) : Byte :=
  flagByte (flagS f) (flagZ f) ((a + v).getLsbD 1) false ((a + v).getLsbD 3) (bc != 0) false (flagC f)

/-- Flags of the block compares, with the new BC (42_exchange_block R311). -/
def compareFlags (a v : Byte) (bc : Word) (f : Byte) : Byte :=
  let res := a - v
  let hf := decide ((a &&& 0x0F).toNat < (v &&& 0x0F).toNat)
  let n := res - (if hf then 1 else 0)
  flagByte (res.getLsbD 7) (res == 0) (n.getLsbD 1) hf (n.getLsbD 3) (bc != 0) true (flagC f)

/-- Flags of the block input and output: ZF from the new B, NF = 1, the other six free (49_io R540, 10_state R53; log entry
6: the free bits are safe). -/
def blockIoFlags (free b : Byte) : Byte :=
  flagByte (flagS free) (b == 0) (flagY free) (flagH free) (flagX free) (flagP free) true (flagC free)

end Sys2Proof.Machine
end

