-- ==== Sys2Proof/Machine/Operands.lean ====
section
/-! DEFINITION. The operand forms: indexed addresses, the halves of the index registers, relative targets, and the read-modify-write
forms that several instructions share (30_encoding R173 to R175; 43_alu8 R335; 46_rotate_shift R441; 47_bit R490;
50_undocumented R573, R581, R582). -/

namespace Sys2Proof.Machine

/-- `sext_16(d)` (00_scope R11). -/
def sext16 (d : Byte) : Word := d.signExtend 16

/-- The address `IX + d` (30_encoding R175). -/
def State.addrIX (s : State) (d : Byte) : Word := s.ix + sext16 d

/-- The address `IY + d` (30_encoding R175). -/
def State.addrIY (s : State) (d : Byte) : Word := s.iy + sext16 d

/-- `PC <- PC + sext_16(e)` (30_encoding R175). -/
def State.jumpRel (s : State) (e : Byte) : State := { s with pc := s.pc + sext16 e }

/-- IXH (10_state R42). -/
def State.ixh (s : State) : Byte := hiByte s.ix
/-- IXL (10_state R42). -/
def State.ixl (s : State) : Byte := loByte s.ix
/-- IYH (10_state R42). -/
def State.iyh (s : State) : Byte := hiByte s.iy
/-- IYL (10_state R42). -/
def State.iyl (s : State) : Byte := loByte s.iy

/-- Write IXH; IXL is unchanged (00_scope R12). -/
def State.setIXH (s : State) (v : Byte) : State := { s with ix := mkWord v (loByte s.ix) }
/-- Write IXL; IXH is unchanged (00_scope R12). -/
def State.setIXL (s : State) (v : Byte) : State := { s with ix := mkWord (hiByte s.ix) v }
/-- Write IYH; IYL is unchanged (00_scope R12). -/
def State.setIYH (s : State) (v : Byte) : State := { s with iy := mkWord v (loByte s.iy) }
/-- Write IYL; IYH is unchanged (00_scope R12). -/
def State.setIYL (s : State) (v : Byte) : State := { s with iy := mkWord (hiByte s.iy) v }

/-- The register of a code under a DD prefix (30_encoding R173, 50_undocumented R573). -/
def State.regIX (s : State) (r : RegXY) : Byte :=
  match r with
  | .b => s.b
  | .c => s.c
  | .d => s.d
  | .e => s.e
  | .xh => s.ixh
  | .xl => s.ixl
  | .a => s.a

/-- Write the register of a code under a DD prefix (30_encoding R173, 50_undocumented R573). -/
def State.setRegIX (s : State) (r : RegXY) (v : Byte) : State :=
  match r with
  | .b => { s with b := v }
  | .c => { s with c := v }
  | .d => { s with d := v }
  | .e => { s with e := v }
  | .xh => s.setIXH v
  | .xl => s.setIXL v
  | .a => { s with a := v }

/-- The register of a code under an FD prefix (30_encoding R173, 50_undocumented R573). -/
def State.regIY (s : State) (r : RegXY) : Byte :=
  match r with
  | .b => s.b
  | .c => s.c
  | .d => s.d
  | .e => s.e
  | .xh => s.iyh
  | .xl => s.iyl
  | .a => s.a

/-- Write the register of a code under an FD prefix (30_encoding R173, 50_undocumented R573). -/
def State.setRegIY (s : State) (r : RegXY) (v : Byte) : State :=
  match r with
  | .b => { s with b := v }
  | .c => { s with c := v }
  | .d => { s with d := v }
  | .e => { s with e := v }
  | .xh => s.setIYH v
  | .xl => s.setIYL v
  | .a => { s with a := v }

/-- The pair added to IX (30_encoding R174). -/
def State.pairIX (s : State) (p : PairXY) : Word :=
  match p with
  | .bc => s.bc
  | .de => s.de
  | .xy => s.ix
  | .sp => s.sp

/-- The pair added to IY (30_encoding R174). -/
def State.pairIY (s : State) (p : PairXY) : Word :=
  match p with
  | .bc => s.bc
  | .de => s.de
  | .xy => s.iy
  | .sp => s.sp

/-- `INC r` (43_alu8 R376). -/
def State.incReg (s : State) (r : Reg8) : State :=
  { s with f := (inc8 (s.reg r) s.f).2 }.setReg r (inc8 (s.reg r) s.f).1

/-- `DEC r` (43_alu8 R380). -/
def State.decReg (s : State) (r : Reg8) : State :=
  { s with f := (dec8 (s.reg r) s.f).2 }.setReg r (dec8 (s.reg r) s.f).1

/-- Increment the memory byte at `addr` (43_alu8 R377). -/
def State.incMem (s : State) (addr : Word) : State :=
  { s with f := (inc8 (s.memRead addr) s.f).2 }.memWrite addr (inc8 (s.memRead addr) s.f).1

/-- Decrement the memory byte at `addr` (43_alu8 R381). -/
def State.decMem (s : State) (addr : Word) : State :=
  { s with f := (dec8 (s.memRead addr) s.f).2 }.memWrite addr (dec8 (s.memRead addr) s.f).1

/-- A shift of a register (46_rotate_shift R446). -/
def State.shiftReg (s : State) (sh : Byte → Bool → Byte × Bool) (r : Reg8) : State :=
  let p := sh (s.reg r) (flagC s.f)
  { s with f := shiftFlags p.1 p.2 }.setReg r p.1

/-- A shift of the memory byte at `addr` (46_rotate_shift R447). -/
def State.shiftMem (s : State) (sh : Byte → Bool → Byte × Bool) (addr : Word) : State :=
  let p := sh (s.memRead addr) (flagC s.f)
  { s with f := shiftFlags p.1 p.2 }.memWrite addr p.1

/-- A shift of the memory byte at `addr`, the result copied into a register too (50_undocumented R581). -/
def State.shiftMemReg (s : State) (sh : Byte → Bool → Byte × Bool) (addr : Word) (r : Reg8) : State :=
  (s.shiftMem sh addr).setReg r (sh (s.memRead addr) (flagC s.f)).1

/-- A one-byte rotate of A (46_rotate_shift R442). -/
def State.rotA (s : State) (sh : Byte → Bool → Byte × Bool) : State :=
  let p := sh s.a (flagC s.f)
  { s with a := p.1, f := accRotFlags p.1 p.2 s.f }

/-- The byte with only bit `b` set (47_bit R490). -/
def bitMask (b : BitVec 3) : Byte := 1 <<< b.toNat

/-- `v | (1 << b)` (47_bit R495). -/
def setBit (b : BitVec 3) (v : Byte) : Byte := v ||| bitMask b

/-- `v & ~(1 << b)` (47_bit R499). -/
def resBit (b : BitVec 3) (v : Byte) : Byte := v &&& ~~~bitMask b

/-- Flags of a BIT instruction (47_bit R490). -/
def State.bitTest (s : State) (b : BitVec 3) (v yx : Byte) : State := { s with f := bitFlags b v yx s.f }

/-- Change the memory byte at `addr` (47_bit R496, R500). -/
def State.modifyMem (s : State) (g : Byte → Byte) (addr : Word) : State := s.memWrite addr (g (s.memRead addr))

/-- Change the memory byte at `addr` and copy the result into a register (50_undocumented R582). -/
def State.modifyMemReg (s : State) (g : Byte → Byte) (addr : Word) (r : Reg8) : State :=
  (s.modifyMem g addr).setReg r (g (s.memRead addr))

end Sys2Proof.Machine
end

