-- ==== Sys2Proof/Machine/Alu16.lean ====
section
/-! DEFINITION. The 16-bit arithmetic group (45_alu16 R420 to R431). One definition per instruction; each ends in a next state. -/

namespace Sys2Proof.Machine

/-- `ADD HL,ss` (45_alu16 R421). -/
def execAddHLSs (ss : PairSP) (s : State) : Result :=
  let s := s.fetched 1 1 11
  .next ({ s with f := (add16 s.hl (s.pairSP ss) s.f).2 }.setHL (add16 s.hl (s.pairSP ss) s.f).1)

/-- `ADC HL,ss` (45_alu16 R422). -/
def execAdcHLSs (ss : PairSP) (s : State) : Result :=
  let s := s.fetched 2 2 15
  .next ({ s with f := (adc16 s.hl (s.pairSP ss) (flagC s.f)).2 }.setHL (adc16 s.hl (s.pairSP ss) (flagC s.f)).1)

/-- `SBC HL,ss` (45_alu16 R423). -/
def execSbcHLSs (ss : PairSP) (s : State) : Result :=
  let s := s.fetched 2 2 15
  .next ({ s with f := (sbc16 s.hl (s.pairSP ss) (flagC s.f)).2 }.setHL (sbc16 s.hl (s.pairSP ss) (flagC s.f)).1)

/-- `ADD IX,pp` (45_alu16 R424). -/
def execAddIXPp (pp : PairXY) (s : State) : Result :=
  let s := s.fetched 2 2 15
  .next { s with ix := (add16 s.ix (s.pairIX pp) s.f).1, f := (add16 s.ix (s.pairIX pp) s.f).2 }

/-- `ADD IY,rr` (45_alu16 R425). -/
def execAddIYRr (pp : PairXY) (s : State) : Result :=
  let s := s.fetched 2 2 15
  .next { s with iy := (add16 s.iy (s.pairIY pp) s.f).1, f := (add16 s.iy (s.pairIY pp) s.f).2 }

/-- `INC ss` (45_alu16 R426). -/
def execIncSs (ss : PairSP) (s : State) : Result :=
  let s := s.fetched 1 1 6
  .next (s.setPairSP ss (s.pairSP ss + 1))

/-- `INC IX` (45_alu16 R427). -/
def execIncIX (s : State) : Result :=
  let s := s.fetched 2 2 10
  .next { s with ix := s.ix + 1 }

/-- `INC IY` (45_alu16 R428). -/
def execIncIY (s : State) : Result :=
  let s := s.fetched 2 2 10
  .next { s with iy := s.iy + 1 }

/-- `DEC ss` (45_alu16 R429). -/
def execDecSs (ss : PairSP) (s : State) : Result :=
  let s := s.fetched 1 1 6
  .next (s.setPairSP ss (s.pairSP ss - 1))

/-- `DEC IX` (45_alu16 R430). -/
def execDecIX (s : State) : Result :=
  let s := s.fetched 2 2 10
  .next { s with ix := s.ix - 1 }

/-- `DEC IY` (45_alu16 R431). -/
def execDecIY (s : State) : Result :=
  let s := s.fetched 2 2 10
  .next { s with iy := s.iy - 1 }

end Sys2Proof.Machine
end

