-- ==== Sys2Proof/Machine/Alu8.lean ====
section
/-! DEFINITION. The 8-bit arithmetic and logic group (43_alu8 R330 to R383). One definition per instruction; each ends in a next state. -/

namespace Sys2Proof.Machine

/-- `ADD A,r` (43_alu8 R336). -/
def execAddAR (r : Reg8) (s : State) : Result :=
  let s := s.fetched 1 1 4
  .next (s.addA (s.reg r))

/-- `ADD A,n` (43_alu8 R337). -/
def execAddAN (n : Byte) (s : State) : Result :=
  let s := s.fetched 2 1 7
  .next (s.addA n)

/-- `ADD A,(HL)` (43_alu8 R338). -/
def execAddAIndHL (s : State) : Result :=
  let s := s.fetched 1 1 7
  .next (s.addA (s.memRead s.hl))

/-- `ADD A,(IX+d)` (43_alu8 R339). -/
def execAddAIndIXd (d : Byte) (s : State) : Result :=
  let s := s.fetched 3 2 19
  .next (s.addA (s.memRead (s.addrIX d)))

/-- `ADD A,(IY+d)` (43_alu8 R340). -/
def execAddAIndIYd (d : Byte) (s : State) : Result :=
  let s := s.fetched 3 2 19
  .next (s.addA (s.memRead (s.addrIY d)))

/-- `ADC A,r` (43_alu8 R341). -/
def execAdcAR (r : Reg8) (s : State) : Result :=
  let s := s.fetched 1 1 4
  .next (s.adcA (s.reg r))

/-- `ADC A,n` (43_alu8 R342). -/
def execAdcAN (n : Byte) (s : State) : Result :=
  let s := s.fetched 2 1 7
  .next (s.adcA n)

/-- `ADC A,(HL)` (43_alu8 R343). -/
def execAdcAIndHL (s : State) : Result :=
  let s := s.fetched 1 1 7
  .next (s.adcA (s.memRead s.hl))

/-- `ADC A,(IX+d)` (43_alu8 R344). -/
def execAdcAIndIXd (d : Byte) (s : State) : Result :=
  let s := s.fetched 3 2 19
  .next (s.adcA (s.memRead (s.addrIX d)))

/-- `ADC A,(IY+d)` (43_alu8 R345). -/
def execAdcAIndIYd (d : Byte) (s : State) : Result :=
  let s := s.fetched 3 2 19
  .next (s.adcA (s.memRead (s.addrIY d)))

/-- `SUB r` (43_alu8 R346). -/
def execSubR (r : Reg8) (s : State) : Result :=
  let s := s.fetched 1 1 4
  .next (s.subA (s.reg r))

/-- `SUB n` (43_alu8 R347). -/
def execSubN (n : Byte) (s : State) : Result :=
  let s := s.fetched 2 1 7
  .next (s.subA n)

/-- `SUB (HL)` (43_alu8 R348). -/
def execSubIndHL (s : State) : Result :=
  let s := s.fetched 1 1 7
  .next (s.subA (s.memRead s.hl))

/-- `SUB (IX+d)` (43_alu8 R349). -/
def execSubIndIXd (d : Byte) (s : State) : Result :=
  let s := s.fetched 3 2 19
  .next (s.subA (s.memRead (s.addrIX d)))

/-- `SUB (IY+d)` (43_alu8 R350). -/
def execSubIndIYd (d : Byte) (s : State) : Result :=
  let s := s.fetched 3 2 19
  .next (s.subA (s.memRead (s.addrIY d)))

/-- `SBC A,r` (43_alu8 R351). -/
def execSbcAR (r : Reg8) (s : State) : Result :=
  let s := s.fetched 1 1 4
  .next (s.sbcA (s.reg r))

/-- `SBC A,n` (43_alu8 R352). -/
def execSbcAN (n : Byte) (s : State) : Result :=
  let s := s.fetched 2 1 7
  .next (s.sbcA n)

/-- `SBC A,(HL)` (43_alu8 R353). -/
def execSbcAIndHL (s : State) : Result :=
  let s := s.fetched 1 1 7
  .next (s.sbcA (s.memRead s.hl))

/-- `SBC A,(IX+d)` (43_alu8 R354). -/
def execSbcAIndIXd (d : Byte) (s : State) : Result :=
  let s := s.fetched 3 2 19
  .next (s.sbcA (s.memRead (s.addrIX d)))

/-- `SBC A,(IY+d)` (43_alu8 R355). -/
def execSbcAIndIYd (d : Byte) (s : State) : Result :=
  let s := s.fetched 3 2 19
  .next (s.sbcA (s.memRead (s.addrIY d)))

/-- `AND r` (43_alu8 R356). -/
def execAndR (r : Reg8) (s : State) : Result :=
  let s := s.fetched 1 1 4
  .next (s.andA (s.reg r))

/-- `AND n` (43_alu8 R357). -/
def execAndN (n : Byte) (s : State) : Result :=
  let s := s.fetched 2 1 7
  .next (s.andA n)

/-- `AND (HL)` (43_alu8 R358). -/
def execAndIndHL (s : State) : Result :=
  let s := s.fetched 1 1 7
  .next (s.andA (s.memRead s.hl))

/-- `AND (IX+d)` (43_alu8 R359). -/
def execAndIndIXd (d : Byte) (s : State) : Result :=
  let s := s.fetched 3 2 19
  .next (s.andA (s.memRead (s.addrIX d)))

/-- `AND (IY+d)` (43_alu8 R360). -/
def execAndIndIYd (d : Byte) (s : State) : Result :=
  let s := s.fetched 3 2 19
  .next (s.andA (s.memRead (s.addrIY d)))

/-- `OR r` (43_alu8 R361). -/
def execOrR (r : Reg8) (s : State) : Result :=
  let s := s.fetched 1 1 4
  .next (s.orA (s.reg r))

/-- `OR n` (43_alu8 R362). -/
def execOrN (n : Byte) (s : State) : Result :=
  let s := s.fetched 2 1 7
  .next (s.orA n)

/-- `OR (HL)` (43_alu8 R363). -/
def execOrIndHL (s : State) : Result :=
  let s := s.fetched 1 1 7
  .next (s.orA (s.memRead s.hl))

/-- `OR (IX+d)` (43_alu8 R364). -/
def execOrIndIXd (d : Byte) (s : State) : Result :=
  let s := s.fetched 3 2 19
  .next (s.orA (s.memRead (s.addrIX d)))

/-- `OR (IY+d)` (43_alu8 R365). -/
def execOrIndIYd (d : Byte) (s : State) : Result :=
  let s := s.fetched 3 2 19
  .next (s.orA (s.memRead (s.addrIY d)))

/-- `XOR r` (43_alu8 R366). -/
def execXorR (r : Reg8) (s : State) : Result :=
  let s := s.fetched 1 1 4
  .next (s.xorA (s.reg r))

/-- `XOR n` (43_alu8 R367). -/
def execXorN (n : Byte) (s : State) : Result :=
  let s := s.fetched 2 1 7
  .next (s.xorA n)

/-- `XOR (HL)` (43_alu8 R368). -/
def execXorIndHL (s : State) : Result :=
  let s := s.fetched 1 1 7
  .next (s.xorA (s.memRead s.hl))

/-- `XOR (IX+d)` (43_alu8 R369). -/
def execXorIndIXd (d : Byte) (s : State) : Result :=
  let s := s.fetched 3 2 19
  .next (s.xorA (s.memRead (s.addrIX d)))

/-- `XOR (IY+d)` (43_alu8 R370). -/
def execXorIndIYd (d : Byte) (s : State) : Result :=
  let s := s.fetched 3 2 19
  .next (s.xorA (s.memRead (s.addrIY d)))

/-- `CP r` (43_alu8 R371). -/
def execCpR (r : Reg8) (s : State) : Result :=
  let s := s.fetched 1 1 4
  .next (s.cpA (s.reg r))

/-- `CP n` (43_alu8 R372). -/
def execCpN (n : Byte) (s : State) : Result :=
  let s := s.fetched 2 1 7
  .next (s.cpA n)

/-- `CP (HL)` (43_alu8 R373). -/
def execCpIndHL (s : State) : Result :=
  let s := s.fetched 1 1 7
  .next (s.cpA (s.memRead s.hl))

/-- `CP (IX+d)` (43_alu8 R374). -/
def execCpIndIXd (d : Byte) (s : State) : Result :=
  let s := s.fetched 3 2 19
  .next (s.cpA (s.memRead (s.addrIX d)))

/-- `CP (IY+d)` (43_alu8 R375). -/
def execCpIndIYd (d : Byte) (s : State) : Result :=
  let s := s.fetched 3 2 19
  .next (s.cpA (s.memRead (s.addrIY d)))

/-- `INC r` (43_alu8 R376). -/
def execIncR (r : Reg8) (s : State) : Result :=
  let s := s.fetched 1 1 4
  .next (s.incReg r)

/-- `INC (HL)` (43_alu8 R377). -/
def execIncIndHL (s : State) : Result :=
  let s := s.fetched 1 1 11
  .next (s.incMem s.hl)

/-- `INC (IX+d)` (43_alu8 R378). -/
def execIncIndIXd (d : Byte) (s : State) : Result :=
  let s := s.fetched 3 2 23
  .next (s.incMem (s.addrIX d))

/-- `INC (IY+d)` (43_alu8 R379). -/
def execIncIndIYd (d : Byte) (s : State) : Result :=
  let s := s.fetched 3 2 23
  .next (s.incMem (s.addrIY d))

/-- `DEC r` (43_alu8 R380). -/
def execDecR (r : Reg8) (s : State) : Result :=
  let s := s.fetched 1 1 4
  .next (s.decReg r)

/-- `DEC (HL)` (43_alu8 R381). -/
def execDecIndHL (s : State) : Result :=
  let s := s.fetched 1 1 11
  .next (s.decMem s.hl)

/-- `DEC (IX+d)` (43_alu8 R382). -/
def execDecIndIXd (d : Byte) (s : State) : Result :=
  let s := s.fetched 3 2 23
  .next (s.decMem (s.addrIX d))

/-- `DEC (IY+d)` (43_alu8 R383). -/
def execDecIndIYd (d : Byte) (s : State) : Result :=
  let s := s.fetched 3 2 23
  .next (s.decMem (s.addrIY d))

end Sys2Proof.Machine
end

