-- ==== Sys2Proof/Machine/Exchange.lean ====
section
/-! DEFINITION. The exchange, block move and block search group (42_exchange_block R300 to R314). One definition per instruction; each ends in a next state. -/

namespace Sys2Proof.Machine

/-- Write the word `v` at SP, the high byte first (42_exchange_block R304). -/
def State.putTop (s : State) (v : Word) : State := (s.memWrite (s.sp + 1) (hiByte v)).memWrite s.sp (loByte v)

/-- One step of a block move after its fetch; `by1` is added to HL and to DE (42_exchange_block R307, R309). -/
def State.blockMove (s : State) (by1 : Word) : State :=
  let v := s.memRead s.hl
  let s1 := s.memWrite s.de v
  let s2 := ((s1.setHL (s1.hl + by1)).setDE (s1.de + by1)).setBC (s1.bc - 1)
  { s2 with f := moveFlags s2.a v s2.bc s2.f }

/-- One step of a block compare after its fetch; `by1` is added to HL (42_exchange_block R311, R313). -/
def State.blockCompare (s : State) (by1 : Word) : State :=
  let v := s.memRead s.hl
  let s1 := (s.setHL (s.hl + by1)).setBC (s.bc - 1)
  { s1 with f := compareFlags s1.a v s1.bc s1.f }

/-- The repeat of a block instruction: PC goes back over its two bytes and 5 T more are added (42_exchange_block R300, R308). -/
def State.repeatBlock (s : State) (again : Bool) : State :=
  if again then { s with pc := s.pc - 2, t := s.t + 5 } else s

/-- `EX AF,AF'` (42_exchange_block R301). -/
def execExAFAF (s : State) : Result :=
  let s := s.fetched 1 1 4
  .next { s with a := s.aAlt, f := s.fAlt, aAlt := s.a, fAlt := s.f }

/-- `EXX` (42_exchange_block R302). -/
def execExx (s : State) : Result :=
  let s := s.fetched 1 1 4
  .next { s with
    b := s.bAlt
    c := s.cAlt
    d := s.dAlt
    e := s.eAlt
    h := s.hAlt
    l := s.lAlt
    bAlt := s.b
    cAlt := s.c
    dAlt := s.d
    eAlt := s.e
    hAlt := s.h
    lAlt := s.l }

/-- `EX DE,HL` (42_exchange_block R303). -/
def execExDEHL (s : State) : Result :=
  let s := s.fetched 1 1 4
  .next { s with d := s.h, e := s.l, h := s.d, l := s.e }

/-- `EX (SP),HL` (42_exchange_block R304). -/
def execExIndSPHL (s : State) : Result :=
  let s := s.fetched 1 1 19
  .next ((s.putTop s.hl).setHL s.top16)

/-- `EX (SP),IX` (42_exchange_block R305). -/
def execExIndSPIX (s : State) : Result :=
  let s := s.fetched 2 2 23
  .next { s.putTop s.ix with ix := s.top16 }

/-- `EX (SP),IY` (42_exchange_block R306). -/
def execExIndSPIY (s : State) : Result :=
  let s := s.fetched 2 2 23
  .next { s.putTop s.iy with iy := s.top16 }

/-- `LDI` (42_exchange_block R307). -/
def execLdi (s : State) : Result :=
  let s := s.fetched 2 2 16
  .next (s.blockMove 1)

/-- `LDIR` (42_exchange_block R308). -/
def execLdir (s : State) : Result :=
  let s1 := (s.fetched 2 2 16).blockMove 1
  .next (s1.repeatBlock (s1.bc != 0))

/-- `LDD` (42_exchange_block R309). -/
def execLdd (s : State) : Result :=
  let s := s.fetched 2 2 16
  .next (s.blockMove (-1))

/-- `LDDR` (42_exchange_block R310). -/
def execLddr (s : State) : Result :=
  let s1 := (s.fetched 2 2 16).blockMove (-1)
  .next (s1.repeatBlock (s1.bc != 0))

/-- `CPI` (42_exchange_block R311). -/
def execCpi (s : State) : Result :=
  let s := s.fetched 2 2 16
  .next (s.blockCompare 1)

/-- `CPIR` (42_exchange_block R312). -/
def execCpir (s : State) : Result :=
  let s1 := (s.fetched 2 2 16).blockCompare 1
  .next (s1.repeatBlock (s1.bc != 0 && !flagZ s1.f))

/-- `CPD` (42_exchange_block R313). -/
def execCpd (s : State) : Result :=
  let s := s.fetched 2 2 16
  .next (s.blockCompare (-1))

/-- `CPDR` (42_exchange_block R314). -/
def execCpdr (s : State) : Result :=
  let s1 := (s.fetched 2 2 16).blockCompare (-1)
  .next (s1.repeatBlock (s1.bc != 0 && !flagZ s1.f))

end Sys2Proof.Machine
end

