-- ==== Sys2Proof/Machine/Io.lean ====
section
/-! DEFINITION. The input and output group (49_io R540 to R552). One definition per instruction; each ends in a next state. -/

namespace Sys2Proof.Machine

/-- A block input after the fetch: the port is read with the old B, the byte stored at HL, `by1` added to HL, B counted down
(49_io R543, R545). -/
def State.blockIn (s : State) (by1 : Word) : State :=
  let r := s.portReadAt s.bc ioDelayBlockIn 16
  let s1 := r.2.memWrite r.2.hl r.1
  let s2 := { s1.setHL (s1.hl + by1) with b := s1.b - 1 }
  { s2 with f := blockIoFlags (Config.freeFlags s2.draws) s2.b }.drawn

/-- A block output after the fetch: B is counted down, the byte at HL is written to the port with the new B, `by1` added to HL
(49_io R549, R551). -/
def State.blockOut (s : State) (by1 : Word) : State :=
  let v := s.memRead s.hl
  let s1 := { s with b := s.b - 1 }
  let s2 := s1.portWriteAt s1.bc v ioDelayBlockOut 16
  let s3 := s2.setHL (s2.hl + by1)
  { s3 with f := blockIoFlags (Config.freeFlags s3.draws) s3.b }.drawn

/-- `IN A,(n)` (49_io R541). -/
def execInAPortN (n : Byte) (s : State) : Result :=
  let s := s.fetched 2 1 0
  let r := s.portReadAt (mkWord s.a n) ioDelayImm 11
  .next { r.2 with a := r.1 }

/-- `IN r,(C)` (49_io R542). -/
def execInRPortC (r : Reg8) (s : State) : Result :=
  let s := s.fetched 2 2 0
  let p := s.portReadAt s.bc ioDelayC 12
  .next ({ p.2 with f := parityFlags p.1 p.2.f }.setReg r p.1)

/-- `INI` (49_io R543). -/
def execIni (s : State) : Result :=
  .next ((s.fetched 2 2 0).blockIn 1)

/-- `INIR` (49_io R544). -/
def execInir (s : State) : Result :=
  let s1 := (s.fetched 2 2 0).blockIn 1
  .next (s1.repeatBlock (s1.b != 0))

/-- `IND` (49_io R545). -/
def execInd (s : State) : Result :=
  .next ((s.fetched 2 2 0).blockIn (-1))

/-- `INDR` (49_io R546). -/
def execIndr (s : State) : Result :=
  let s1 := (s.fetched 2 2 0).blockIn (-1)
  .next (s1.repeatBlock (s1.b != 0))

/-- `OUT (n),A` (49_io R547). -/
def execOutPortNA (n : Byte) (s : State) : Result :=
  let s := s.fetched 2 1 0
  .next (s.portWriteAt (mkWord s.a n) s.a ioDelayImm 11)

/-- `OUT (C),r` (49_io R548). -/
def execOutPortCR (r : Reg8) (s : State) : Result :=
  let s := s.fetched 2 2 0
  .next (s.portWriteAt s.bc (s.reg r) ioDelayC 12)

/-- `OUTI` (49_io R549). -/
def execOuti (s : State) : Result :=
  .next ((s.fetched 2 2 0).blockOut 1)

/-- `OTIR` (49_io R550). -/
def execOtir (s : State) : Result :=
  let s1 := (s.fetched 2 2 0).blockOut 1
  .next (s1.repeatBlock (s1.b != 0))

/-- `OUTD` (49_io R551). -/
def execOutd (s : State) : Result :=
  .next ((s.fetched 2 2 0).blockOut (-1))

/-- `OTDR` (49_io R552). -/
def execOtdr (s : State) : Result :=
  let s1 := (s.fetched 2 2 0).blockOut (-1)
  .next (s1.repeatBlock (s1.b != 0))

end Sys2Proof.Machine
end

