-- ==== Sys2Proof/Machine/Load16.lean ====
section
/-! DEFINITION. The 16-bit load group and the stack (41_load16_stack R260 to R280). One definition per instruction; each ends in a next state. -/

namespace Sys2Proof.Machine

/-- `LD dd,nn` (41_load16_stack R261). -/
def execLdDdNn (dd : PairSP) (nn : Word) (s : State) : Result :=
  let s := s.fetched 3 1 10
  .next (s.setPairSP dd nn)

/-- `LD IX,nn` (41_load16_stack R262). -/
def execLdIXNn (nn : Word) (s : State) : Result :=
  let s := s.fetched 4 2 14
  .next { s with ix := nn }

/-- `LD IY,nn` (41_load16_stack R263). -/
def execLdIYNn (nn : Word) (s : State) : Result :=
  let s := s.fetched 4 2 14
  .next { s with iy := nn }

/-- `LD HL,(nn)` (41_load16_stack R264). -/
def execLdHLIndNn (nn : Word) (s : State) : Result :=
  let s := s.fetched 3 1 16
  .next (s.setHL (s.memRead16 nn))

/-- `LD dd,(nn)` (41_load16_stack R265). -/
def execLdDdIndNn (dd : PairSP) (nn : Word) (s : State) : Result :=
  let s := s.fetched 4 2 20
  .next (s.setPairSP dd (s.memRead16 nn))

/-- `LD IX,(nn)` (41_load16_stack R266). -/
def execLdIXIndNn (nn : Word) (s : State) : Result :=
  let s := s.fetched 4 2 20
  .next { s with ix := s.memRead16 nn }

/-- `LD IY,(nn)` (41_load16_stack R267). -/
def execLdIYIndNn (nn : Word) (s : State) : Result :=
  let s := s.fetched 4 2 20
  .next { s with iy := s.memRead16 nn }

/-- `LD (nn),HL` (41_load16_stack R268). -/
def execLdIndNnHL (nn : Word) (s : State) : Result :=
  let s := s.fetched 3 1 16
  .next (s.memWrite16 nn s.hl)

/-- `LD (nn),dd` (41_load16_stack R269). -/
def execLdIndNnDd (nn : Word) (dd : PairSP) (s : State) : Result :=
  let s := s.fetched 4 2 20
  .next (s.memWrite16 nn (s.pairSP dd))

/-- `LD (nn),IX` (41_load16_stack R270). -/
def execLdIndNnIX (nn : Word) (s : State) : Result :=
  let s := s.fetched 4 2 20
  .next (s.memWrite16 nn s.ix)

/-- `LD (nn),IY` (41_load16_stack R271). -/
def execLdIndNnIY (nn : Word) (s : State) : Result :=
  let s := s.fetched 4 2 20
  .next (s.memWrite16 nn s.iy)

/-- `LD SP,HL` (41_load16_stack R272). -/
def execLdSPHL (s : State) : Result :=
  let s := s.fetched 1 1 6
  .next { s with sp := s.hl }

/-- `LD SP,IX` (41_load16_stack R273). -/
def execLdSPIX (s : State) : Result :=
  let s := s.fetched 2 2 10
  .next { s with sp := s.ix }

/-- `LD SP,IY` (41_load16_stack R274). -/
def execLdSPIY (s : State) : Result :=
  let s := s.fetched 2 2 10
  .next { s with sp := s.iy }

/-- `PUSH qq` (41_load16_stack R275). -/
def execPushQq (qq : PairAF) (s : State) : Result :=
  let s := s.fetched 1 1 11
  .next (s.push16 (s.pairAF qq))

/-- `PUSH IX` (41_load16_stack R276). -/
def execPushIX (s : State) : Result :=
  let s := s.fetched 2 2 15
  .next (s.push16 s.ix)

/-- `PUSH IY` (41_load16_stack R277). -/
def execPushIY (s : State) : Result :=
  let s := s.fetched 2 2 15
  .next (s.push16 s.iy)

/-- `POP qq` (41_load16_stack R278). -/
def execPopQq (qq : PairAF) (s : State) : Result :=
  let s := s.fetched 1 1 10
  .next ({ s with sp := s.sp + 2 }.setPairAF qq s.top16)

/-- `POP IX` (41_load16_stack R279). -/
def execPopIX (s : State) : Result :=
  let s := s.fetched 2 2 14
  .next { s with ix := s.top16, sp := s.sp + 2 }

/-- `POP IY` (41_load16_stack R280). -/
def execPopIY (s : State) : Result :=
  let s := s.fetched 2 2 14
  .next { s with iy := s.top16, sp := s.sp + 2 }

end Sys2Proof.Machine
end

