-- ==== Sys2Proof/Machine/Load8.lean ====
section
/-! DEFINITION. The 8-bit load group (40_load8 R220 to R241). One definition per instruction; each ends in a next state. -/

namespace Sys2Proof.Machine

/-- `LD r,r'` (40_load8 R221). -/
def execLdRR (dst : Reg8) (src : Reg8) (s : State) : Result :=
  let s := s.fetched 1 1 4
  .next (s.setReg dst (s.reg src))

/-- `LD r,n` (40_load8 R222). -/
def execLdRN (r : Reg8) (n : Byte) (s : State) : Result :=
  let s := s.fetched 2 1 7
  .next (s.setReg r n)

/-- `LD r,(HL)` (40_load8 R223). -/
def execLdRIndHL (r : Reg8) (s : State) : Result :=
  let s := s.fetched 1 1 7
  .next (s.setReg r (s.memRead s.hl))

/-- `LD r,(IX+d)` (40_load8 R224). -/
def execLdRIndIXd (r : Reg8) (d : Byte) (s : State) : Result :=
  let s := s.fetched 3 2 19
  .next (s.setReg r (s.memRead (s.addrIX d)))

/-- `LD r,(IY+d)` (40_load8 R225). -/
def execLdRIndIYd (r : Reg8) (d : Byte) (s : State) : Result :=
  let s := s.fetched 3 2 19
  .next (s.setReg r (s.memRead (s.addrIY d)))

/-- `LD (HL),r` (40_load8 R226). -/
def execLdIndHLR (r : Reg8) (s : State) : Result :=
  let s := s.fetched 1 1 7
  .next (s.memWrite s.hl (s.reg r))

/-- `LD (IX+d),r` (40_load8 R227). -/
def execLdIndIXdR (d : Byte) (r : Reg8) (s : State) : Result :=
  let s := s.fetched 3 2 19
  .next (s.memWrite (s.addrIX d) (s.reg r))

/-- `LD (IY+d),r` (40_load8 R228). -/
def execLdIndIYdR (d : Byte) (r : Reg8) (s : State) : Result :=
  let s := s.fetched 3 2 19
  .next (s.memWrite (s.addrIY d) (s.reg r))

/-- `LD (HL),n` (40_load8 R229). -/
def execLdIndHLN (n : Byte) (s : State) : Result :=
  let s := s.fetched 2 1 10
  .next (s.memWrite s.hl n)

/-- `LD (IX+d),n` (40_load8 R230). -/
def execLdIndIXdN (d : Byte) (n : Byte) (s : State) : Result :=
  let s := s.fetched 4 2 19
  .next (s.memWrite (s.addrIX d) n)

/-- `LD (IY+d),n` (40_load8 R231). -/
def execLdIndIYdN (d : Byte) (n : Byte) (s : State) : Result :=
  let s := s.fetched 4 2 19
  .next (s.memWrite (s.addrIY d) n)

/-- `LD A,(BC)` (40_load8 R232). -/
def execLdAIndBC (s : State) : Result :=
  let s := s.fetched 1 1 7
  .next { s with a := s.memRead s.bc }

/-- `LD A,(DE)` (40_load8 R233). -/
def execLdAIndDE (s : State) : Result :=
  let s := s.fetched 1 1 7
  .next { s with a := s.memRead s.de }

/-- `LD A,(nn)` (40_load8 R234). -/
def execLdAIndNn (nn : Word) (s : State) : Result :=
  let s := s.fetched 3 1 13
  .next { s with a := s.memRead nn }

/-- `LD (BC),A` (40_load8 R235). -/
def execLdIndBCA (s : State) : Result :=
  let s := s.fetched 1 1 7
  .next (s.memWrite s.bc s.a)

/-- `LD (DE),A` (40_load8 R236). -/
def execLdIndDEA (s : State) : Result :=
  let s := s.fetched 1 1 7
  .next (s.memWrite s.de s.a)

/-- `LD (nn),A` (40_load8 R237). -/
def execLdIndNnA (nn : Word) (s : State) : Result :=
  let s := s.fetched 3 1 13
  .next (s.memWrite nn s.a)

/-- `LD A,I` (40_load8 R238). -/
def execLdAI (s : State) : Result :=
  let s := s.fetched 2 2 9
  .next { s with a := s.i, f := loadIRFlags s.i s.iff2 s.f }

/-- `LD A,R` (40_load8 R239). -/
def execLdAR (s : State) : Result :=
  let s := s.fetched 2 2 9
  .next { s with a := s.rHi ++ s.rLo, f := loadIRFlags (s.rHi ++ s.rLo) s.iff2 s.f }

/-- `LD I,A` (40_load8 R240). -/
def execLdIA (s : State) : Result :=
  let s := s.fetched 2 2 9
  .next { s with i := s.a }

/-- `LD R,A` (40_load8 R241). -/
def execLdRA (s : State) : Result :=
  let s := s.fetched 2 2 9
  .next { s with rLo := s.a.extractLsb' 0 7, rHi := s.a.extractLsb' 7 1 }

end Sys2Proof.Machine
end

