-- ==== Sys2Proof/Machine/Rotate.lean ====
section
/-! DEFINITION. The rotate and shift group (46_rotate_shift R440 to R475). One definition per instruction; each ends in a next state. -/

namespace Sys2Proof.Machine

/-- RLD and RRD after the fetch: `low` is the byte for memory, `acc` the new A (46_rotate_shift R474, R475). -/
def State.digit (s : State) (low acc : Byte) : State :=
  { s with a := acc, f := parityFlags acc s.f }.memWrite s.hl low

/-- `RLCA` (46_rotate_shift R442). -/
def execRlca (s : State) : Result :=
  let s := s.fetched 1 1 4
  .next (s.rotA shRlc)

/-- `RLA` (46_rotate_shift R443). -/
def execRla (s : State) : Result :=
  let s := s.fetched 1 1 4
  .next (s.rotA shRl)

/-- `RRCA` (46_rotate_shift R444). -/
def execRrca (s : State) : Result :=
  let s := s.fetched 1 1 4
  .next (s.rotA shRrc)

/-- `RRA` (46_rotate_shift R445). -/
def execRra (s : State) : Result :=
  let s := s.fetched 1 1 4
  .next (s.rotA shRr)

/-- `RLC r` (46_rotate_shift R446). -/
def execRlcR (r : Reg8) (s : State) : Result :=
  let s := s.fetched 2 2 8
  .next (s.shiftReg shRlc r)

/-- `RLC (HL)` (46_rotate_shift R447). -/
def execRlcIndHL (s : State) : Result :=
  let s := s.fetched 2 2 15
  .next (s.shiftMem shRlc s.hl)

/-- `RLC (IX+d)` (46_rotate_shift R448). -/
def execRlcIndIXd (d : Byte) (s : State) : Result :=
  let s := s.fetched 4 2 23
  .next (s.shiftMem shRlc (s.addrIX d))

/-- `RLC (IY+d)` (46_rotate_shift R449). -/
def execRlcIndIYd (d : Byte) (s : State) : Result :=
  let s := s.fetched 4 2 23
  .next (s.shiftMem shRlc (s.addrIY d))

/-- `RL r` (46_rotate_shift R450). -/
def execRlR (r : Reg8) (s : State) : Result :=
  let s := s.fetched 2 2 8
  .next (s.shiftReg shRl r)

/-- `RL (HL)` (46_rotate_shift R451). -/
def execRlIndHL (s : State) : Result :=
  let s := s.fetched 2 2 15
  .next (s.shiftMem shRl s.hl)

/-- `RL (IX+d)` (46_rotate_shift R452). -/
def execRlIndIXd (d : Byte) (s : State) : Result :=
  let s := s.fetched 4 2 23
  .next (s.shiftMem shRl (s.addrIX d))

/-- `RL (IY+d)` (46_rotate_shift R453). -/
def execRlIndIYd (d : Byte) (s : State) : Result :=
  let s := s.fetched 4 2 23
  .next (s.shiftMem shRl (s.addrIY d))

/-- `RRC r` (46_rotate_shift R454). -/
def execRrcR (r : Reg8) (s : State) : Result :=
  let s := s.fetched 2 2 8
  .next (s.shiftReg shRrc r)

/-- `RRC (HL)` (46_rotate_shift R455). -/
def execRrcIndHL (s : State) : Result :=
  let s := s.fetched 2 2 15
  .next (s.shiftMem shRrc s.hl)

/-- `RRC (IX+d)` (46_rotate_shift R456). -/
def execRrcIndIXd (d : Byte) (s : State) : Result :=
  let s := s.fetched 4 2 23
  .next (s.shiftMem shRrc (s.addrIX d))

/-- `RRC (IY+d)` (46_rotate_shift R457). -/
def execRrcIndIYd (d : Byte) (s : State) : Result :=
  let s := s.fetched 4 2 23
  .next (s.shiftMem shRrc (s.addrIY d))

/-- `RR r` (46_rotate_shift R458). -/
def execRrR (r : Reg8) (s : State) : Result :=
  let s := s.fetched 2 2 8
  .next (s.shiftReg shRr r)

/-- `RR (HL)` (46_rotate_shift R459). -/
def execRrIndHL (s : State) : Result :=
  let s := s.fetched 2 2 15
  .next (s.shiftMem shRr s.hl)

/-- `RR (IX+d)` (46_rotate_shift R460). -/
def execRrIndIXd (d : Byte) (s : State) : Result :=
  let s := s.fetched 4 2 23
  .next (s.shiftMem shRr (s.addrIX d))

/-- `RR (IY+d)` (46_rotate_shift R461). -/
def execRrIndIYd (d : Byte) (s : State) : Result :=
  let s := s.fetched 4 2 23
  .next (s.shiftMem shRr (s.addrIY d))

/-- `SLA r` (46_rotate_shift R462). -/
def execSlaR (r : Reg8) (s : State) : Result :=
  let s := s.fetched 2 2 8
  .next (s.shiftReg shSla r)

/-- `SLA (HL)` (46_rotate_shift R463). -/
def execSlaIndHL (s : State) : Result :=
  let s := s.fetched 2 2 15
  .next (s.shiftMem shSla s.hl)

/-- `SLA (IX+d)` (46_rotate_shift R464). -/
def execSlaIndIXd (d : Byte) (s : State) : Result :=
  let s := s.fetched 4 2 23
  .next (s.shiftMem shSla (s.addrIX d))

/-- `SLA (IY+d)` (46_rotate_shift R465). -/
def execSlaIndIYd (d : Byte) (s : State) : Result :=
  let s := s.fetched 4 2 23
  .next (s.shiftMem shSla (s.addrIY d))

/-- `SRA r` (46_rotate_shift R466). -/
def execSraR (r : Reg8) (s : State) : Result :=
  let s := s.fetched 2 2 8
  .next (s.shiftReg shSra r)

/-- `SRA (HL)` (46_rotate_shift R467). -/
def execSraIndHL (s : State) : Result :=
  let s := s.fetched 2 2 15
  .next (s.shiftMem shSra s.hl)

/-- `SRA (IX+d)` (46_rotate_shift R468). -/
def execSraIndIXd (d : Byte) (s : State) : Result :=
  let s := s.fetched 4 2 23
  .next (s.shiftMem shSra (s.addrIX d))

/-- `SRA (IY+d)` (46_rotate_shift R469). -/
def execSraIndIYd (d : Byte) (s : State) : Result :=
  let s := s.fetched 4 2 23
  .next (s.shiftMem shSra (s.addrIY d))

/-- `SRL r` (46_rotate_shift R470). -/
def execSrlR (r : Reg8) (s : State) : Result :=
  let s := s.fetched 2 2 8
  .next (s.shiftReg shSrl r)

/-- `SRL (HL)` (46_rotate_shift R471). -/
def execSrlIndHL (s : State) : Result :=
  let s := s.fetched 2 2 15
  .next (s.shiftMem shSrl s.hl)

/-- `SRL (IX+d)` (46_rotate_shift R472). -/
def execSrlIndIXd (d : Byte) (s : State) : Result :=
  let s := s.fetched 4 2 23
  .next (s.shiftMem shSrl (s.addrIX d))

/-- `SRL (IY+d)` (46_rotate_shift R473). -/
def execSrlIndIYd (d : Byte) (s : State) : Result :=
  let s := s.fetched 4 2 23
  .next (s.shiftMem shSrl (s.addrIY d))

/-- `RLD` (46_rotate_shift R474). -/
def execRld (s : State) : Result :=
  let s := s.fetched 2 2 18
  .next (s.digit ((s.memRead s.hl).extractLsb' 0 4 ++ s.a.extractLsb' 0 4)
    (s.a.extractLsb' 4 4 ++ (s.memRead s.hl).extractLsb' 4 4))

/-- `RRD` (46_rotate_shift R475). -/
def execRrd (s : State) : Result :=
  let s := s.fetched 2 2 18
  .next (s.digit (s.a.extractLsb' 0 4 ++ (s.memRead s.hl).extractLsb' 4 4)
    (s.a.extractLsb' 4 4 ++ (s.memRead s.hl).extractLsb' 0 4))

end Sys2Proof.Machine
end

