-- ==== Sys2Proof/Machine/Bit.lean ====
section
/-! DEFINITION. The bit test, set and reset group (47_bit R490 to R502). One definition per instruction; each ends in a next state. -/

namespace Sys2Proof.Machine

/-- BIT of the memory byte at `addr`, YF and XF from the high byte of the address (47_bit R493). -/
def State.bitTestAt (s : State) (b : BitVec 3) (addr : Word) : State := s.bitTest b (s.memRead addr) (hiByte addr)

/-- `BIT b,r` (47_bit R491). -/
def execBitBR (b : BitVec 3) (r : Reg8) (s : State) : Result :=
  let s := s.fetched 2 2 8
  .next (s.bitTest b (s.reg r) (s.reg r))

/-- `BIT b,(HL)` (47_bit R492). -/
def execBitBIndHL (b : BitVec 3) (s : State) : Result :=
  let s := s.fetched 2 2 12
  .next (s.bitTest b (s.memRead s.hl) (Config.freeFlags s.draws)).drawn

/-- `BIT b,(IX+d)` (47_bit R493). -/
def execBitBIndIXd (b : BitVec 3) (d : Byte) (s : State) : Result :=
  let s := s.fetched 4 2 20
  .next (s.bitTestAt b (s.addrIX d))

/-- `BIT b,(IY+d)` (47_bit R494). -/
def execBitBIndIYd (b : BitVec 3) (d : Byte) (s : State) : Result :=
  let s := s.fetched 4 2 20
  .next (s.bitTestAt b (s.addrIY d))

/-- `SET b,r` (47_bit R495). -/
def execSetBR (b : BitVec 3) (r : Reg8) (s : State) : Result :=
  let s := s.fetched 2 2 8
  .next (s.setReg r (setBit b (s.reg r)))

/-- `SET b,(HL)` (47_bit R496). -/
def execSetBIndHL (b : BitVec 3) (s : State) : Result :=
  let s := s.fetched 2 2 15
  .next (s.modifyMem (setBit b) s.hl)

/-- `SET b,(IX+d)` (47_bit R497). -/
def execSetBIndIXd (b : BitVec 3) (d : Byte) (s : State) : Result :=
  let s := s.fetched 4 2 23
  .next (s.modifyMem (setBit b) (s.addrIX d))

/-- `SET b,(IY+d)` (47_bit R498). -/
def execSetBIndIYd (b : BitVec 3) (d : Byte) (s : State) : Result :=
  let s := s.fetched 4 2 23
  .next (s.modifyMem (setBit b) (s.addrIY d))

/-- `RES b,r` (47_bit R499). -/
def execResBR (b : BitVec 3) (r : Reg8) (s : State) : Result :=
  let s := s.fetched 2 2 8
  .next (s.setReg r (resBit b (s.reg r)))

/-- `RES b,(HL)` (47_bit R500). -/
def execResBIndHL (b : BitVec 3) (s : State) : Result :=
  let s := s.fetched 2 2 15
  .next (s.modifyMem (resBit b) s.hl)

/-- `RES b,(IX+d)` (47_bit R501). -/
def execResBIndIXd (b : BitVec 3) (d : Byte) (s : State) : Result :=
  let s := s.fetched 4 2 23
  .next (s.modifyMem (resBit b) (s.addrIX d))

/-- `RES b,(IY+d)` (47_bit R502). -/
def execResBIndIYd (b : BitVec 3) (d : Byte) (s : State) : Result :=
  let s := s.fetched 4 2 23
  .next (s.modifyMem (resBit b) (s.addrIY d))

end Sys2Proof.Machine
end

