-- ==== Sys2Proof/Machine/Control.lean ====
section
/-! DEFINITION. The general-purpose arithmetic and CPU control group (44_general_cpu_control R400 to R413). One definition per instruction; each ends in a next state. -/

namespace Sys2Proof.Machine

/-- `NEG` after its fetch (44_general_cpu_control R403). -/
def State.negA (s : State) : State := { s with a := (sub8 0 s.a false).1, f := (sub8 0 s.a false).2 }

/-- `DAA` (44_general_cpu_control R401). -/
def execDaa (s : State) : Result :=
  let s := s.fetched 1 1 4
  .next { s with a := (daaResult s.a s.f).1, f := (daaResult s.a s.f).2 }

/-- `CPL` (44_general_cpu_control R402). -/
def execCpl (s : State) : Result :=
  let s := s.fetched 1 1 4
  .next { s with
    a := ~~~s.a
    f := flagByte (flagS s.f) (flagZ s.f) ((~~~s.a).getLsbD 5) true ((~~~s.a).getLsbD 3) (flagP s.f) true (flagC s.f) }

/-- `NEG` (44_general_cpu_control R403). -/
def execNeg (s : State) : Result :=
  let s := s.fetched 2 2 8
  .next s.negA

/-- `CCF` (44_general_cpu_control R404). -/
def execCcf (s : State) : Result :=
  let s := s.fetched 1 1 4
  .next { s with
    f := flagByte (flagS s.f) (flagZ s.f) (s.a.getLsbD 5) (flagC s.f) (s.a.getLsbD 3) (flagP s.f) false (!flagC s.f) }

/-- `SCF` (44_general_cpu_control R405). -/
def execScf (s : State) : Result :=
  let s := s.fetched 1 1 4
  .next { s with
    f := flagByte (flagS s.f) (flagZ s.f) (s.a.getLsbD 5) false (s.a.getLsbD 3) (flagP s.f) false true }

/-- `NOP` (44_general_cpu_control R406). -/
def execNop (s : State) : Result :=
  let s := s.fetched 1 1 4
  .next s

/-- `HALT` (44_general_cpu_control R407). -/
def execHalt (s : State) : Result :=
  let s := s.fetched 1 1 4
  .next { s with halted := true, haltPos := s.t }

/-- `DI` (44_general_cpu_control R409). -/
def execDi (s : State) : Result :=
  let s := s.fetched 1 1 4
  .next { s with iff1 := false, iff2 := false }

/-- `EI` (44_general_cpu_control R410). -/
def execEi (s : State) : Result :=
  let s := s.fetched 1 1 4
  .next { s with iff1 := true, iff2 := true, eiPos := (s.t : Int) }

/-- `IM 0` (44_general_cpu_control R411). -/
def execIm0 (s : State) : Result :=
  let s := s.fetched 2 2 8
  .next { s with im := .im0 }

/-- `IM 1` (44_general_cpu_control R412). -/
def execIm1 (s : State) : Result :=
  let s := s.fetched 2 2 8
  .next { s with im := .im1 }

/-- `IM 2` (44_general_cpu_control R413). -/
def execIm2 (s : State) : Result :=
  let s := s.fetched 2 2 8
  .next { s with im := .im2 }

end Sys2Proof.Machine
end

