-- ==== Sys2Proof/Machine/Jump.lean ====
section
/-! DEFINITION. The jump, call and return group (48_control_transfer R510 to R528). One definition per instruction; each ends in a next state. -/

namespace Sys2Proof.Machine

/-- `PC <- Pop16(); IFF1 <- IFF2` (48_control_transfer R526, R527). -/
def State.returnInt (s : State) : State := { s.popPC with iff1 := s.iff2 }

/-- `Push16(PC); PC <- target` (48_control_transfer R522). -/
def State.call (s : State) (target : Word) : State := { s.push16 s.pc with pc := target }

/-- A conditional relative jump after its two bytes are fetched in 7 T: 5 T more when taken (48_control_transfer R514). -/
def State.jumpIf (s : State) (c : Bool) (e : Byte) : State :=
  if c then { s.jumpRel e with t := s.t + 5 } else s

/-- `JP nn` (48_control_transfer R511). -/
def execJpNn (nn : Word) (s : State) : Result :=
  let s := s.fetched 3 1 10
  .next { s with pc := nn }

/-- `JP cc,nn` (48_control_transfer R512). -/
def execJpCcNn (cc : Cond) (nn : Word) (s : State) : Result :=
  let s := s.fetched 3 1 10
  .next (if s.cond cc then { s with pc := nn } else s)

/-- `JR e` (48_control_transfer R513). -/
def execJrE (e : Byte) (s : State) : Result :=
  let s := s.fetched 2 1 12
  .next (s.jumpRel e)

/-- `JR C,e` (48_control_transfer R514). -/
def execJrCE (e : Byte) (s : State) : Result :=
  let s := s.fetched 2 1 7
  .next (s.jumpIf (flagC s.f) e)

/-- `JR NC,e` (48_control_transfer R515). -/
def execJrNCE (e : Byte) (s : State) : Result :=
  let s := s.fetched 2 1 7
  .next (s.jumpIf (!flagC s.f) e)

/-- `JR Z,e` (48_control_transfer R516). -/
def execJrZE (e : Byte) (s : State) : Result :=
  let s := s.fetched 2 1 7
  .next (s.jumpIf (flagZ s.f) e)

/-- `JR NZ,e` (48_control_transfer R517). -/
def execJrNZE (e : Byte) (s : State) : Result :=
  let s := s.fetched 2 1 7
  .next (s.jumpIf (!flagZ s.f) e)

/-- `JP (HL)` (48_control_transfer R518). -/
def execJpIndHL (s : State) : Result :=
  let s := s.fetched 1 1 4
  .next { s with pc := s.hl }

/-- `JP (IX)` (48_control_transfer R519). -/
def execJpIndIX (s : State) : Result :=
  let s := s.fetched 2 2 8
  .next { s with pc := s.ix }

/-- `JP (IY)` (48_control_transfer R520). -/
def execJpIndIY (s : State) : Result :=
  let s := s.fetched 2 2 8
  .next { s with pc := s.iy }

/-- `DJNZ e` (48_control_transfer R521). -/
def execDjnzE (e : Byte) (s : State) : Result :=
  let s := s.fetched 2 1 8
  let s1 := { s with b := s.b - 1 }
  .next (s1.jumpIf (s1.b != 0) e)

/-- `CALL nn` (48_control_transfer R522). -/
def execCallNn (nn : Word) (s : State) : Result :=
  let s := s.fetched 3 1 17
  .next (s.call nn)

/-- `CALL cc,nn` (48_control_transfer R523). -/
def execCallCcNn (cc : Cond) (nn : Word) (s : State) : Result :=
  let s := s.fetched 3 1 10
  .next (if s.cond cc then { s.call nn with t := s.t + 7 } else s)

/-- `RET` (48_control_transfer R524). -/
def execRet (s : State) : Result :=
  let s := s.fetched 1 1 10
  .next s.popPC

/-- `RET cc` (48_control_transfer R525). -/
def execRetCc (cc : Cond) (s : State) : Result :=
  let s := s.fetched 1 1 5
  .next (if s.cond cc then { s.popPC with t := s.t + 6 } else s)

/-- `RETI` (48_control_transfer R526). -/
def execReti (s : State) : Result :=
  let s := s.fetched 2 2 14
  .next s.returnInt

/-- `RETN` (48_control_transfer R527). -/
def execRetn (s : State) : Result :=
  let s := s.fetched 2 2 14
  .next s.returnInt

/-- `RST p` (48_control_transfer R528). -/
def execRstP (p : BitVec 3) (s : State) : Result :=
  let s := s.fetched 1 1 11
  .next (s.call (0#10 ++ p ++ 0#3))

end Sys2Proof.Machine
end

