-- ==== Sys2Proof/Machine/Undoc.lean ====
section
/-! DEFINITION. The undocumented forms (50_undocumented R573 to R589). One definition per instruction; each ends in a next state. -/

namespace Sys2Proof.Machine

/-- The interrupt mode of an `IM` mirror (50_undocumented R588). -/
def mirrorMode (k : BitVec 3) : IntMode :=
  match k with
  | 2#3 => .im1
  | 3#3 => .im2
  | 6#3 => .im1
  | 7#3 => .im2
  | _ => .im0

/-- `LD p,p' (IXH/IXL forms)` (50_undocumented R573). -/
def execLdPPIX (dst : RegXY) (src : RegXY) (s : State) : Result :=
  let s := s.fetched 2 2 8
  .next (s.setRegIX dst (s.regIX src))

/-- `LD IXH,n` (50_undocumented R574). -/
def execLdIXHN (n : Byte) (s : State) : Result :=
  let s := s.fetched 3 2 11
  .next (s.setIXH n)

/-- `INC IXH` (50_undocumented R575). -/
def execIncIXH (s : State) : Result :=
  let s := s.fetched 2 2 8
  .next ({ s with f := (inc8 s.ixh s.f).2 }.setIXH (inc8 s.ixh s.f).1)

/-- `DEC IXH` (50_undocumented R576). -/
def execDecIXH (s : State) : Result :=
  let s := s.fetched 2 2 8
  .next ({ s with f := (dec8 s.ixh s.f).2 }.setIXH (dec8 s.ixh s.f).1)

/-- `ADD A,IXH` (50_undocumented R577). -/
def execAddAIXH (s : State) : Result :=
  let s := s.fetched 2 2 8
  .next (s.addA s.ixh)

/-- `ADC A,IXH` (50_undocumented R577). -/
def execAdcAIXH (s : State) : Result :=
  let s := s.fetched 2 2 8
  .next (s.adcA s.ixh)

/-- `SUB IXH` (50_undocumented R577). -/
def execSubIXH (s : State) : Result :=
  let s := s.fetched 2 2 8
  .next (s.subA s.ixh)

/-- `SBC A,IXH` (50_undocumented R577). -/
def execSbcAIXH (s : State) : Result :=
  let s := s.fetched 2 2 8
  .next (s.sbcA s.ixh)

/-- `AND IXH` (50_undocumented R577). -/
def execAndIXH (s : State) : Result :=
  let s := s.fetched 2 2 8
  .next (s.andA s.ixh)

/-- `OR IXH` (50_undocumented R577). -/
def execOrIXH (s : State) : Result :=
  let s := s.fetched 2 2 8
  .next (s.orA s.ixh)

/-- `XOR IXH` (50_undocumented R577). -/
def execXorIXH (s : State) : Result :=
  let s := s.fetched 2 2 8
  .next (s.xorA s.ixh)

/-- `CP IXH` (50_undocumented R577). -/
def execCpIXH (s : State) : Result :=
  let s := s.fetched 2 2 8
  .next (s.cpA s.ixh)

/-- `LD IXL,n` (50_undocumented R574). -/
def execLdIXLN (n : Byte) (s : State) : Result :=
  let s := s.fetched 3 2 11
  .next (s.setIXL n)

/-- `INC IXL` (50_undocumented R575). -/
def execIncIXL (s : State) : Result :=
  let s := s.fetched 2 2 8
  .next ({ s with f := (inc8 s.ixl s.f).2 }.setIXL (inc8 s.ixl s.f).1)

/-- `DEC IXL` (50_undocumented R576). -/
def execDecIXL (s : State) : Result :=
  let s := s.fetched 2 2 8
  .next ({ s with f := (dec8 s.ixl s.f).2 }.setIXL (dec8 s.ixl s.f).1)

/-- `ADD A,IXL` (50_undocumented R577). -/
def execAddAIXL (s : State) : Result :=
  let s := s.fetched 2 2 8
  .next (s.addA s.ixl)

/-- `ADC A,IXL` (50_undocumented R577). -/
def execAdcAIXL (s : State) : Result :=
  let s := s.fetched 2 2 8
  .next (s.adcA s.ixl)

/-- `SUB IXL` (50_undocumented R577). -/
def execSubIXL (s : State) : Result :=
  let s := s.fetched 2 2 8
  .next (s.subA s.ixl)

/-- `SBC A,IXL` (50_undocumented R577). -/
def execSbcAIXL (s : State) : Result :=
  let s := s.fetched 2 2 8
  .next (s.sbcA s.ixl)

/-- `AND IXL` (50_undocumented R577). -/
def execAndIXL (s : State) : Result :=
  let s := s.fetched 2 2 8
  .next (s.andA s.ixl)

/-- `OR IXL` (50_undocumented R577). -/
def execOrIXL (s : State) : Result :=
  let s := s.fetched 2 2 8
  .next (s.orA s.ixl)

/-- `XOR IXL` (50_undocumented R577). -/
def execXorIXL (s : State) : Result :=
  let s := s.fetched 2 2 8
  .next (s.xorA s.ixl)

/-- `CP IXL` (50_undocumented R577). -/
def execCpIXL (s : State) : Result :=
  let s := s.fetched 2 2 8
  .next (s.cpA s.ixl)

/-- `LD p,p' (IYH/IYL forms)` (50_undocumented R573). -/
def execLdPPIY (dst : RegXY) (src : RegXY) (s : State) : Result :=
  let s := s.fetched 2 2 8
  .next (s.setRegIY dst (s.regIY src))

/-- `LD IYH,n` (50_undocumented R574). -/
def execLdIYHN (n : Byte) (s : State) : Result :=
  let s := s.fetched 3 2 11
  .next (s.setIYH n)

/-- `INC IYH` (50_undocumented R575). -/
def execIncIYH (s : State) : Result :=
  let s := s.fetched 2 2 8
  .next ({ s with f := (inc8 s.iyh s.f).2 }.setIYH (inc8 s.iyh s.f).1)

/-- `DEC IYH` (50_undocumented R576). -/
def execDecIYH (s : State) : Result :=
  let s := s.fetched 2 2 8
  .next ({ s with f := (dec8 s.iyh s.f).2 }.setIYH (dec8 s.iyh s.f).1)

/-- `ADD A,IYH` (50_undocumented R577). -/
def execAddAIYH (s : State) : Result :=
  let s := s.fetched 2 2 8
  .next (s.addA s.iyh)

/-- `ADC A,IYH` (50_undocumented R577). -/
def execAdcAIYH (s : State) : Result :=
  let s := s.fetched 2 2 8
  .next (s.adcA s.iyh)

/-- `SUB IYH` (50_undocumented R577). -/
def execSubIYH (s : State) : Result :=
  let s := s.fetched 2 2 8
  .next (s.subA s.iyh)

/-- `SBC A,IYH` (50_undocumented R577). -/
def execSbcAIYH (s : State) : Result :=
  let s := s.fetched 2 2 8
  .next (s.sbcA s.iyh)

/-- `AND IYH` (50_undocumented R577). -/
def execAndIYH (s : State) : Result :=
  let s := s.fetched 2 2 8
  .next (s.andA s.iyh)

/-- `OR IYH` (50_undocumented R577). -/
def execOrIYH (s : State) : Result :=
  let s := s.fetched 2 2 8
  .next (s.orA s.iyh)

/-- `XOR IYH` (50_undocumented R577). -/
def execXorIYH (s : State) : Result :=
  let s := s.fetched 2 2 8
  .next (s.xorA s.iyh)

/-- `CP IYH` (50_undocumented R577). -/
def execCpIYH (s : State) : Result :=
  let s := s.fetched 2 2 8
  .next (s.cpA s.iyh)

/-- `LD IYL,n` (50_undocumented R574). -/
def execLdIYLN (n : Byte) (s : State) : Result :=
  let s := s.fetched 3 2 11
  .next (s.setIYL n)

/-- `INC IYL` (50_undocumented R575). -/
def execIncIYL (s : State) : Result :=
  let s := s.fetched 2 2 8
  .next ({ s with f := (inc8 s.iyl s.f).2 }.setIYL (inc8 s.iyl s.f).1)

/-- `DEC IYL` (50_undocumented R576). -/
def execDecIYL (s : State) : Result :=
  let s := s.fetched 2 2 8
  .next ({ s with f := (dec8 s.iyl s.f).2 }.setIYL (dec8 s.iyl s.f).1)

/-- `ADD A,IYL` (50_undocumented R577). -/
def execAddAIYL (s : State) : Result :=
  let s := s.fetched 2 2 8
  .next (s.addA s.iyl)

/-- `ADC A,IYL` (50_undocumented R577). -/
def execAdcAIYL (s : State) : Result :=
  let s := s.fetched 2 2 8
  .next (s.adcA s.iyl)

/-- `SUB IYL` (50_undocumented R577). -/
def execSubIYL (s : State) : Result :=
  let s := s.fetched 2 2 8
  .next (s.subA s.iyl)

/-- `SBC A,IYL` (50_undocumented R577). -/
def execSbcAIYL (s : State) : Result :=
  let s := s.fetched 2 2 8
  .next (s.sbcA s.iyl)

/-- `AND IYL` (50_undocumented R577). -/
def execAndIYL (s : State) : Result :=
  let s := s.fetched 2 2 8
  .next (s.andA s.iyl)

/-- `OR IYL` (50_undocumented R577). -/
def execOrIYL (s : State) : Result :=
  let s := s.fetched 2 2 8
  .next (s.orA s.iyl)

/-- `XOR IYL` (50_undocumented R577). -/
def execXorIYL (s : State) : Result :=
  let s := s.fetched 2 2 8
  .next (s.xorA s.iyl)

/-- `CP IYL` (50_undocumented R577). -/
def execCpIYL (s : State) : Result :=
  let s := s.fetched 2 2 8
  .next (s.cpA s.iyl)

/-- `SLL r` (50_undocumented R578). -/
def execSllR (r : Reg8) (s : State) : Result :=
  let s := s.fetched 2 2 8
  .next (s.shiftReg shSll r)

/-- `SLL (HL)` (50_undocumented R579). -/
def execSllIndHL (s : State) : Result :=
  let s := s.fetched 2 2 15
  .next (s.shiftMem shSll s.hl)

/-- `SLL (IX+d)` (50_undocumented R580). -/
def execSllIndIXd (d : Byte) (s : State) : Result :=
  let s := s.fetched 4 2 23
  .next (s.shiftMem shSll (s.addrIX d))

/-- `SLL (IY+d)` (50_undocumented R580). -/
def execSllIndIYd (d : Byte) (s : State) : Result :=
  let s := s.fetched 4 2 23
  .next (s.shiftMem shSll (s.addrIY d))

/-- `RLC (IX+d),r` (50_undocumented R581). -/
def execRlcIndIXdR (d : Byte) (r : Reg8) (s : State) : Result :=
  let s := s.fetched 4 2 23
  .next (s.shiftMemReg shRlc (s.addrIX d) r)

/-- `RLC (IY+d),r` (50_undocumented R581). -/
def execRlcIndIYdR (d : Byte) (r : Reg8) (s : State) : Result :=
  let s := s.fetched 4 2 23
  .next (s.shiftMemReg shRlc (s.addrIY d) r)

/-- `RRC (IX+d),r` (50_undocumented R581). -/
def execRrcIndIXdR (d : Byte) (r : Reg8) (s : State) : Result :=
  let s := s.fetched 4 2 23
  .next (s.shiftMemReg shRrc (s.addrIX d) r)

/-- `RRC (IY+d),r` (50_undocumented R581). -/
def execRrcIndIYdR (d : Byte) (r : Reg8) (s : State) : Result :=
  let s := s.fetched 4 2 23
  .next (s.shiftMemReg shRrc (s.addrIY d) r)

/-- `RL (IX+d),r` (50_undocumented R581). -/
def execRlIndIXdR (d : Byte) (r : Reg8) (s : State) : Result :=
  let s := s.fetched 4 2 23
  .next (s.shiftMemReg shRl (s.addrIX d) r)

/-- `RL (IY+d),r` (50_undocumented R581). -/
def execRlIndIYdR (d : Byte) (r : Reg8) (s : State) : Result :=
  let s := s.fetched 4 2 23
  .next (s.shiftMemReg shRl (s.addrIY d) r)

/-- `RR (IX+d),r` (50_undocumented R581). -/
def execRrIndIXdR (d : Byte) (r : Reg8) (s : State) : Result :=
  let s := s.fetched 4 2 23
  .next (s.shiftMemReg shRr (s.addrIX d) r)

/-- `RR (IY+d),r` (50_undocumented R581). -/
def execRrIndIYdR (d : Byte) (r : Reg8) (s : State) : Result :=
  let s := s.fetched 4 2 23
  .next (s.shiftMemReg shRr (s.addrIY d) r)

/-- `SLA (IX+d),r` (50_undocumented R581). -/
def execSlaIndIXdR (d : Byte) (r : Reg8) (s : State) : Result :=
  let s := s.fetched 4 2 23
  .next (s.shiftMemReg shSla (s.addrIX d) r)

/-- `SLA (IY+d),r` (50_undocumented R581). -/
def execSlaIndIYdR (d : Byte) (r : Reg8) (s : State) : Result :=
  let s := s.fetched 4 2 23
  .next (s.shiftMemReg shSla (s.addrIY d) r)

/-- `SRA (IX+d),r` (50_undocumented R581). -/
def execSraIndIXdR (d : Byte) (r : Reg8) (s : State) : Result :=
  let s := s.fetched 4 2 23
  .next (s.shiftMemReg shSra (s.addrIX d) r)

/-- `SRA (IY+d),r` (50_undocumented R581). -/
def execSraIndIYdR (d : Byte) (r : Reg8) (s : State) : Result :=
  let s := s.fetched 4 2 23
  .next (s.shiftMemReg shSra (s.addrIY d) r)

/-- `SLL (IX+d),r` (50_undocumented R581). -/
def execSllIndIXdR (d : Byte) (r : Reg8) (s : State) : Result :=
  let s := s.fetched 4 2 23
  .next (s.shiftMemReg shSll (s.addrIX d) r)

/-- `SLL (IY+d),r` (50_undocumented R581). -/
def execSllIndIYdR (d : Byte) (r : Reg8) (s : State) : Result :=
  let s := s.fetched 4 2 23
  .next (s.shiftMemReg shSll (s.addrIY d) r)

/-- `SRL (IX+d),r` (50_undocumented R581). -/
def execSrlIndIXdR (d : Byte) (r : Reg8) (s : State) : Result :=
  let s := s.fetched 4 2 23
  .next (s.shiftMemReg shSrl (s.addrIX d) r)

/-- `SRL (IY+d),r` (50_undocumented R581). -/
def execSrlIndIYdR (d : Byte) (r : Reg8) (s : State) : Result :=
  let s := s.fetched 4 2 23
  .next (s.shiftMemReg shSrl (s.addrIY d) r)

/-- `RES b,(IX+d),r` (50_undocumented R582). -/
def execResBIndIXdR (b : BitVec 3) (d : Byte) (r : Reg8) (s : State) : Result :=
  let s := s.fetched 4 2 23
  .next (s.modifyMemReg (resBit b) (s.addrIX d) r)

/-- `RES b,(IY+d),r` (50_undocumented R582). -/
def execResBIndIYdR (b : BitVec 3) (d : Byte) (r : Reg8) (s : State) : Result :=
  let s := s.fetched 4 2 23
  .next (s.modifyMemReg (resBit b) (s.addrIY d) r)

/-- `SET b,(IX+d),r` (50_undocumented R582). -/
def execSetBIndIXdR (b : BitVec 3) (d : Byte) (r : Reg8) (s : State) : Result :=
  let s := s.fetched 4 2 23
  .next (s.modifyMemReg (setBit b) (s.addrIX d) r)

/-- `SET b,(IY+d),r` (50_undocumented R582). -/
def execSetBIndIYdR (b : BitVec 3) (d : Byte) (r : Reg8) (s : State) : Result :=
  let s := s.fetched 4 2 23
  .next (s.modifyMemReg (setBit b) (s.addrIY d) r)

/-- `BIT b,(IX+d) (mirror)` (50_undocumented R583). -/
def execBitBIndIXdMirror (b : BitVec 3) (d : Byte) (_r : Reg8) (s : State) : Result :=
  let s := s.fetched 4 2 20
  .next (s.bitTestAt b (s.addrIX d))

/-- `BIT b,(IY+d) (mirror)` (50_undocumented R583). -/
def execBitBIndIYdMirror (b : BitVec 3) (d : Byte) (_r : Reg8) (s : State) : Result :=
  let s := s.fetched 4 2 20
  .next (s.bitTestAt b (s.addrIY d))

/-- `IN (C)` (50_undocumented R584). -/
def execInPortC (s : State) : Result :=
  let s := s.fetched 2 2 0
  let p := s.portReadAt s.bc ioDelayC 12
  .next { p.2 with f := parityFlags p.1 p.2.f }

/-- `OUT (C),0` (50_undocumented R585). -/
def execOutPortC0 (s : State) : Result :=
  let s := s.fetched 2 2 0
  .next (s.portWriteAt s.bc 0x00 ioDelayC 12)

/-- `NEG (mirror)` (50_undocumented R586). -/
def execNegMirror (_k : BitVec 3) (s : State) : Result :=
  let s := s.fetched 2 2 8
  .next s.negA

/-- `RETN (mirror)` (50_undocumented R587). -/
def execRetnMirror (_k : BitVec 3) (s : State) : Result :=
  let s := s.fetched 2 2 14
  .next s.returnInt

/-- `IM n (mirror)` (50_undocumented R588). -/
def execImMirror (k : BitVec 3) (s : State) : Result :=
  let s := s.fetched 2 2 8
  .next { s with im := mirrorMode k }

/-- `NOP (ED 77, ED 7F)` (50_undocumented R589). -/
def execNopEd77 (_k : BitVec 1) (s : State) : Result :=
  let s := s.fetched 2 2 8
  .next s

/-- `NOP (ED xx, unassigned)` (50_undocumented R589). -/
def execNopEd (_op : Byte) (s : State) : Result :=
  let s := s.fetched 2 2 8
  .next s

end Sys2Proof.Machine
end

