-- ==== Sys2Proof/Machine/Prefix.lean ====
section
/-! DEFINITION. The DD and FD prefixes that do not change the instruction after them (50_undocumented R571, R572). -/

namespace Sys2Proof.Machine

/-- The unprefixed instruction behind a passed-over prefix, by the same meaning as without it (50_undocumented R571). Only the
instructions that a prefix passes over have an arm; no other term gets here (log entry 20). -/
def passedOver (i : Instr) (s : State) : Result :=
  match i with
  | .nop => execNop s
  | .exAFAF => execExAFAF s
  | .djnzE e => execDjnzE e s
  | .jrE e => execJrE e s
  | .jrNZE e => execJrNZE e s
  | .jrZE e => execJrZE e s
  | .jrNCE e => execJrNCE e s
  | .jrCE e => execJrCE e s
  | .ldDdNn dd nn => execLdDdNn dd nn s
  | .ldIndBCA => execLdIndBCA s
  | .ldIndDEA => execLdIndDEA s
  | .ldIndNnA nn => execLdIndNnA nn s
  | .ldAIndBC => execLdAIndBC s
  | .ldAIndDE => execLdAIndDE s
  | .ldAIndNn nn => execLdAIndNn nn s
  | .incSs ss => execIncSs ss s
  | .decSs ss => execDecSs ss s
  | .incR r => execIncR r s
  | .decR r => execDecR r s
  | .ldRN r n => execLdRN r n s
  | .rlca => execRlca s
  | .rrca => execRrca s
  | .rla => execRla s
  | .rra => execRra s
  | .daa => execDaa s
  | .cpl => execCpl s
  | .scf => execScf s
  | .ccf => execCcf s
  | .ldRR dst src => execLdRR dst src s
  | .halt => execHalt s
  | .addAR r => execAddAR r s
  | .addAN n => execAddAN n s
  | .adcAR r => execAdcAR r s
  | .adcAN n => execAdcAN n s
  | .subR r => execSubR r s
  | .subN n => execSubN n s
  | .sbcAR r => execSbcAR r s
  | .sbcAN n => execSbcAN n s
  | .andR r => execAndR r s
  | .andN n => execAndN n s
  | .xorR r => execXorR r s
  | .xorN n => execXorN n s
  | .orR r => execOrR r s
  | .orN n => execOrN n s
  | .cpR r => execCpR r s
  | .cpN n => execCpN n s
  | .retCc cc => execRetCc cc s
  | .popQq qq => execPopQq qq s
  | .ret => execRet s
  | .exx => execExx s
  | .jpCcNn cc nn => execJpCcNn cc nn s
  | .jpNn nn => execJpNn nn s
  | .outPortNA n => execOutPortNA n s
  | .inAPortN n => execInAPortN n s
  | .exDEHL => execExDEHL s
  | .di => execDi s
  | .ei => execEi s
  | .callCcNn cc nn => execCallCcNn cc nn s
  | .pushQq qq => execPushQq qq s
  | .callNn nn => execCallNn nn s
  | .rstP p => execRstP p s
  | .addHLSs _ | .ldIndNnHL _ | .ldHLIndNn _ | .incIndHL | .decIndHL | .ldIndHLN _ | .ldRIndHL _ | .ldIndHLR _
  | .addAIndHL | .adcAIndHL | .subIndHL | .sbcAIndHL | .andIndHL | .xorIndHL | .orIndHL | .cpIndHL | .jpIndHL
  | .ldSPHL | .exIndSPHL | .rlcR _ | .rlcIndHL | .rrcR _ | .rrcIndHL | .rlR _ | .rlIndHL | .rrR _ | .rrIndHL
  | .slaR _ | .slaIndHL | .sraR _ | .sraIndHL | .srlR _ | .srlIndHL | .sllR _ | .sllIndHL | .bitBR _ _ | .bitBIndHL _
  | .resBR _ _ | .resBIndHL _ | .setBR _ _ | .setBIndHL _ | .inRPortC _ | .inPortC | .outPortCR _ | .outPortC0
  | .sbcHLSs _ | .adcHLSs _ | .ldIndNnDd _ _ | .ldDdIndNn _ _ | .neg | .negMirror _ | .retn | .reti | .retnMirror _
  | .im0 | .im1 | .im2 | .imMirror _ | .ldIA | .ldRA | .ldAI | .ldAR | .rrd | .rld | .nopEd77 _ | .ldi | .cpi | .ini
  | .outi | .ldd | .cpd | .ind | .outd | .ldir | .cpir | .inir | .otir | .lddr | .cpdr | .indr | .otdr | .nopEd _
  | .ldIXNn _ | .ldIndNnIX _ | .ldIXIndNn _ | .incIX | .decIX | .addIXPp _ | .incIndIXd _ | .decIndIXd _
  | .ldIndIXdN _ _ | .ldRIndIXd _ _ | .ldIndIXdR _ _ | .addAIndIXd _ | .adcAIndIXd _ | .subIndIXd _ | .sbcAIndIXd _
  | .andIndIXd _ | .xorIndIXd _ | .orIndIXd _ | .cpIndIXd _ | .popIX | .exIndSPIX | .pushIX | .jpIndIX | .ldSPIX
  | .incIXH | .decIXH | .ldIXHN _ | .incIXL | .decIXL | .ldIXLN _ | .ldPPIX _ _ | .addAIXH | .addAIXL | .adcAIXH
  | .adcAIXL | .subIXH | .subIXL | .sbcAIXH | .sbcAIXL | .andIXH | .andIXL | .xorIXH | .xorIXL | .orIXH | .orIXL
  | .cpIXH | .cpIXL | .rlcIndIXd _ | .rlcIndIXdR _ _ | .rrcIndIXd _ | .rrcIndIXdR _ _ | .rlIndIXd _ | .rlIndIXdR _ _
  | .rrIndIXd _ | .rrIndIXdR _ _ | .slaIndIXd _ | .slaIndIXdR _ _ | .sraIndIXd _ | .sraIndIXdR _ _ | .srlIndIXd _
  | .srlIndIXdR _ _ | .sllIndIXd _ | .sllIndIXdR _ _ | .bitBIndIXd _ _ | .bitBIndIXdMirror _ _ _ | .resBIndIXd _ _
  | .resBIndIXdR _ _ _ | .setBIndIXd _ _ | .setBIndIXdR _ _ _ | .ddPass _ | .ddOverride | .ldIYNn _ | .ldIndNnIY _
  | .ldIYIndNn _ | .incIY | .decIY | .addIYRr _ | .incIndIYd _ | .decIndIYd _ | .ldIndIYdN _ _ | .ldRIndIYd _ _
  | .ldIndIYdR _ _ | .addAIndIYd _ | .adcAIndIYd _ | .subIndIYd _ | .sbcAIndIYd _ | .andIndIYd _ | .xorIndIYd _
  | .orIndIYd _ | .cpIndIYd _ | .popIY | .exIndSPIY | .pushIY | .jpIndIY | .ldSPIY | .incIYH | .decIYH | .ldIYHN _
  | .incIYL | .decIYL | .ldIYLN _ | .ldPPIY _ _ | .addAIYH | .addAIYL | .adcAIYH | .adcAIYL | .subIYH | .subIYL
  | .sbcAIYH | .sbcAIYL | .andIYH | .andIYL | .xorIYH | .xorIYL | .orIYH | .orIYL | .cpIYH | .cpIYL | .rlcIndIYd _
  | .rlcIndIYdR _ _ | .rrcIndIYd _ | .rrcIndIYdR _ _ | .rlIndIYd _ | .rlIndIYdR _ _ | .rrIndIYd _ | .rrIndIYdR _ _
  | .slaIndIYd _ | .slaIndIYdR _ _ | .sraIndIYd _ | .sraIndIYdR _ _ | .srlIndIYd _ | .srlIndIYdR _ _ | .sllIndIYd _
  | .sllIndIYdR _ _ | .bitBIndIYd _ _ | .bitBIndIYdMirror _ _ _ | .resBIndIYd _ _ | .resBIndIYdR _ _ _
  | .setBIndIYd _ _ | .setBIndIYdR _ _ _ | .fdPass _ | .fdOverride => .refused .illFormedPrefix

/-- A passed-over prefix: 4 T and one M1, then the unprefixed instruction in the same step (50_undocumented R571). -/
def passPrefix (i : Instr) (s : State) : Result :=
  if i.passable then passedOver i (s.fetched 1 1 4) else .refused .illFormedPrefix

/-- A prefix overridden by the prefix after it: 4 T, one M1, and the interrupt test at the next boundary fails (50_undocumented
R572). -/
def overridePrefix (s : State) : State :=
  let s1 := s.fetched 1 1 4
  { s1 with eiPos := (s1.t : Int) }

/-- `DD prefix, no effect` (50_undocumented R571). -/
def execDdPass (i : Instr) (s : State) : Result :=
  passPrefix i s

/-- `DD prefix, overridden` (50_undocumented R572). -/
def execDdOverride (s : State) : Result :=
  .next (overridePrefix s)

/-- `FD prefix, no effect` (50_undocumented R571). -/
def execFdPass (i : Instr) (s : State) : Result :=
  passPrefix i s

/-- `FD prefix, overridden` (50_undocumented R572). -/
def execFdOverride (s : State) : Result :=
  .next (overridePrefix s)

end Sys2Proof.Machine
end

