-- ==== Sys2Proof/Machine/Dispatch.lean ====
section
/-! DEFINITION. The dispatch: one arm per constructor of `Instr`, in the order of spec/opcode_table.json, each one direct call of its
meaning. -/

namespace Sys2Proof.Machine

def exec (i : Instr) (s : State) : Host.Outcome State Fault Refusal :=
  match i with
  | .nop => Sys2Proof.Machine.execNop s
  | .exAFAF => Sys2Proof.Machine.execExAFAF s
  | .djnzE e => Sys2Proof.Machine.execDjnzE e s
  | .jrE e => Sys2Proof.Machine.execJrE e s
  | .jrNZE e => Sys2Proof.Machine.execJrNZE e s
  | .jrZE e => Sys2Proof.Machine.execJrZE e s
  | .jrNCE e => Sys2Proof.Machine.execJrNCE e s
  | .jrCE e => Sys2Proof.Machine.execJrCE e s
  | .ldDdNn dd nn => Sys2Proof.Machine.execLdDdNn dd nn s
  | .addHLSs ss => Sys2Proof.Machine.execAddHLSs ss s
  | .ldIndBCA => Sys2Proof.Machine.execLdIndBCA s
  | .ldIndDEA => Sys2Proof.Machine.execLdIndDEA s
  | .ldIndNnHL nn => Sys2Proof.Machine.execLdIndNnHL nn s
  | .ldIndNnA nn => Sys2Proof.Machine.execLdIndNnA nn s
  | .ldAIndBC => Sys2Proof.Machine.execLdAIndBC s
  | .ldAIndDE => Sys2Proof.Machine.execLdAIndDE s
  | .ldHLIndNn nn => Sys2Proof.Machine.execLdHLIndNn nn s
  | .ldAIndNn nn => Sys2Proof.Machine.execLdAIndNn nn s
  | .incSs ss => Sys2Proof.Machine.execIncSs ss s
  | .decSs ss => Sys2Proof.Machine.execDecSs ss s
  | .incR r => Sys2Proof.Machine.execIncR r s
  | .incIndHL => Sys2Proof.Machine.execIncIndHL s
  | .decR r => Sys2Proof.Machine.execDecR r s
  | .decIndHL => Sys2Proof.Machine.execDecIndHL s
  | .ldRN r n => Sys2Proof.Machine.execLdRN r n s
  | .ldIndHLN n => Sys2Proof.Machine.execLdIndHLN n s
  | .rlca => Sys2Proof.Machine.execRlca s
  | .rrca => Sys2Proof.Machine.execRrca s
  | .rla => Sys2Proof.Machine.execRla s
  | .rra => Sys2Proof.Machine.execRra s
  | .daa => Sys2Proof.Machine.execDaa s
  | .cpl => Sys2Proof.Machine.execCpl s
  | .scf => Sys2Proof.Machine.execScf s
  | .ccf => Sys2Proof.Machine.execCcf s
  | .ldRR dst src => Sys2Proof.Machine.execLdRR dst src s
  | .ldRIndHL r => Sys2Proof.Machine.execLdRIndHL r s
  | .ldIndHLR r => Sys2Proof.Machine.execLdIndHLR r s
  | .halt => Sys2Proof.Machine.execHalt s
  | .addAR r => Sys2Proof.Machine.execAddAR r s
  | .addAN n => Sys2Proof.Machine.execAddAN n s
  | .addAIndHL => Sys2Proof.Machine.execAddAIndHL s
  | .adcAR r => Sys2Proof.Machine.execAdcAR r s
  | .adcAN n => Sys2Proof.Machine.execAdcAN n s
  | .adcAIndHL => Sys2Proof.Machine.execAdcAIndHL s
  | .subR r => Sys2Proof.Machine.execSubR r s
  | .subN n => Sys2Proof.Machine.execSubN n s
  | .subIndHL => Sys2Proof.Machine.execSubIndHL s
  | .sbcAR r => Sys2Proof.Machine.execSbcAR r s
  | .sbcAN n => Sys2Proof.Machine.execSbcAN n s
  | .sbcAIndHL => Sys2Proof.Machine.execSbcAIndHL s
  | .andR r => Sys2Proof.Machine.execAndR r s
  | .andN n => Sys2Proof.Machine.execAndN n s
  | .andIndHL => Sys2Proof.Machine.execAndIndHL s
  | .xorR r => Sys2Proof.Machine.execXorR r s
  | .xorN n => Sys2Proof.Machine.execXorN n s
  | .xorIndHL => Sys2Proof.Machine.execXorIndHL s
  | .orR r => Sys2Proof.Machine.execOrR r s
  | .orN n => Sys2Proof.Machine.execOrN n s
  | .orIndHL => Sys2Proof.Machine.execOrIndHL s
  | .cpR r => Sys2Proof.Machine.execCpR r s
  | .cpN n => Sys2Proof.Machine.execCpN n s
  | .cpIndHL => Sys2Proof.Machine.execCpIndHL s
  | .retCc cc => Sys2Proof.Machine.execRetCc cc s
  | .popQq qq => Sys2Proof.Machine.execPopQq qq s
  | .ret => Sys2Proof.Machine.execRet s
  | .exx => Sys2Proof.Machine.execExx s
  | .jpIndHL => Sys2Proof.Machine.execJpIndHL s
  | .ldSPHL => Sys2Proof.Machine.execLdSPHL s
  | .jpCcNn cc nn => Sys2Proof.Machine.execJpCcNn cc nn s
  | .jpNn nn => Sys2Proof.Machine.execJpNn nn s
  | .outPortNA n => Sys2Proof.Machine.execOutPortNA n s
  | .inAPortN n => Sys2Proof.Machine.execInAPortN n s
  | .exIndSPHL => Sys2Proof.Machine.execExIndSPHL s
  | .exDEHL => Sys2Proof.Machine.execExDEHL s
  | .di => Sys2Proof.Machine.execDi s
  | .ei => Sys2Proof.Machine.execEi s
  | .callCcNn cc nn => Sys2Proof.Machine.execCallCcNn cc nn s
  | .pushQq qq => Sys2Proof.Machine.execPushQq qq s
  | .callNn nn => Sys2Proof.Machine.execCallNn nn s
  | .rstP p => Sys2Proof.Machine.execRstP p s
  | .rlcR r => Sys2Proof.Machine.execRlcR r s
  | .rlcIndHL => Sys2Proof.Machine.execRlcIndHL s
  | .rrcR r => Sys2Proof.Machine.execRrcR r s
  | .rrcIndHL => Sys2Proof.Machine.execRrcIndHL s
  | .rlR r => Sys2Proof.Machine.execRlR r s
  | .rlIndHL => Sys2Proof.Machine.execRlIndHL s
  | .rrR r => Sys2Proof.Machine.execRrR r s
  | .rrIndHL => Sys2Proof.Machine.execRrIndHL s
  | .slaR r => Sys2Proof.Machine.execSlaR r s
  | .slaIndHL => Sys2Proof.Machine.execSlaIndHL s
  | .sraR r => Sys2Proof.Machine.execSraR r s
  | .sraIndHL => Sys2Proof.Machine.execSraIndHL s
  | .srlR r => Sys2Proof.Machine.execSrlR r s
  | .srlIndHL => Sys2Proof.Machine.execSrlIndHL s
  | .sllR r => Sys2Proof.Machine.execSllR r s
  | .sllIndHL => Sys2Proof.Machine.execSllIndHL s
  | .bitBR b r => Sys2Proof.Machine.execBitBR b r s
  | .bitBIndHL b => Sys2Proof.Machine.execBitBIndHL b s
  | .resBR b r => Sys2Proof.Machine.execResBR b r s
  | .resBIndHL b => Sys2Proof.Machine.execResBIndHL b s
  | .setBR b r => Sys2Proof.Machine.execSetBR b r s
  | .setBIndHL b => Sys2Proof.Machine.execSetBIndHL b s
  | .inRPortC r => Sys2Proof.Machine.execInRPortC r s
  | .inPortC => Sys2Proof.Machine.execInPortC s
  | .outPortCR r => Sys2Proof.Machine.execOutPortCR r s
  | .outPortC0 => Sys2Proof.Machine.execOutPortC0 s
  | .sbcHLSs ss => Sys2Proof.Machine.execSbcHLSs ss s
  | .adcHLSs ss => Sys2Proof.Machine.execAdcHLSs ss s
  | .ldIndNnDd nn dd => Sys2Proof.Machine.execLdIndNnDd nn dd s
  | .ldDdIndNn dd nn => Sys2Proof.Machine.execLdDdIndNn dd nn s
  | .neg => Sys2Proof.Machine.execNeg s
  | .negMirror k => Sys2Proof.Machine.execNegMirror k s
  | .retn => Sys2Proof.Machine.execRetn s
  | .reti => Sys2Proof.Machine.execReti s
  | .retnMirror k => Sys2Proof.Machine.execRetnMirror k s
  | .im0 => Sys2Proof.Machine.execIm0 s
  | .im1 => Sys2Proof.Machine.execIm1 s
  | .im2 => Sys2Proof.Machine.execIm2 s
  | .imMirror k => Sys2Proof.Machine.execImMirror k s
  | .ldIA => Sys2Proof.Machine.execLdIA s
  | .ldRA => Sys2Proof.Machine.execLdRA s
  | .ldAI => Sys2Proof.Machine.execLdAI s
  | .ldAR => Sys2Proof.Machine.execLdAR s
  | .rrd => Sys2Proof.Machine.execRrd s
  | .rld => Sys2Proof.Machine.execRld s
  | .nopEd77 k => Sys2Proof.Machine.execNopEd77 k s
  | .ldi => Sys2Proof.Machine.execLdi s
  | .cpi => Sys2Proof.Machine.execCpi s
  | .ini => Sys2Proof.Machine.execIni s
  | .outi => Sys2Proof.Machine.execOuti s
  | .ldd => Sys2Proof.Machine.execLdd s
  | .cpd => Sys2Proof.Machine.execCpd s
  | .ind => Sys2Proof.Machine.execInd s
  | .outd => Sys2Proof.Machine.execOutd s
  | .ldir => Sys2Proof.Machine.execLdir s
  | .cpir => Sys2Proof.Machine.execCpir s
  | .inir => Sys2Proof.Machine.execInir s
  | .otir => Sys2Proof.Machine.execOtir s
  | .lddr => Sys2Proof.Machine.execLddr s
  | .cpdr => Sys2Proof.Machine.execCpdr s
  | .indr => Sys2Proof.Machine.execIndr s
  | .otdr => Sys2Proof.Machine.execOtdr s
  | .nopEd op => Sys2Proof.Machine.execNopEd op s
  | .ldIXNn nn => Sys2Proof.Machine.execLdIXNn nn s
  | .ldIndNnIX nn => Sys2Proof.Machine.execLdIndNnIX nn s
  | .ldIXIndNn nn => Sys2Proof.Machine.execLdIXIndNn nn s
  | .incIX => Sys2Proof.Machine.execIncIX s
  | .decIX => Sys2Proof.Machine.execDecIX s
  | .addIXPp pp => Sys2Proof.Machine.execAddIXPp pp s
  | .incIndIXd d => Sys2Proof.Machine.execIncIndIXd d s
  | .decIndIXd d => Sys2Proof.Machine.execDecIndIXd d s
  | .ldIndIXdN d n => Sys2Proof.Machine.execLdIndIXdN d n s
  | .ldRIndIXd r d => Sys2Proof.Machine.execLdRIndIXd r d s
  | .ldIndIXdR d r => Sys2Proof.Machine.execLdIndIXdR d r s
  | .addAIndIXd d => Sys2Proof.Machine.execAddAIndIXd d s
  | .adcAIndIXd d => Sys2Proof.Machine.execAdcAIndIXd d s
  | .subIndIXd d => Sys2Proof.Machine.execSubIndIXd d s
  | .sbcAIndIXd d => Sys2Proof.Machine.execSbcAIndIXd d s
  | .andIndIXd d => Sys2Proof.Machine.execAndIndIXd d s
  | .xorIndIXd d => Sys2Proof.Machine.execXorIndIXd d s
  | .orIndIXd d => Sys2Proof.Machine.execOrIndIXd d s
  | .cpIndIXd d => Sys2Proof.Machine.execCpIndIXd d s
  | .popIX => Sys2Proof.Machine.execPopIX s
  | .exIndSPIX => Sys2Proof.Machine.execExIndSPIX s
  | .pushIX => Sys2Proof.Machine.execPushIX s
  | .jpIndIX => Sys2Proof.Machine.execJpIndIX s
  | .ldSPIX => Sys2Proof.Machine.execLdSPIX s
  | .incIXH => Sys2Proof.Machine.execIncIXH s
  | .decIXH => Sys2Proof.Machine.execDecIXH s
  | .ldIXHN n => Sys2Proof.Machine.execLdIXHN n s
  | .incIXL => Sys2Proof.Machine.execIncIXL s
  | .decIXL => Sys2Proof.Machine.execDecIXL s
  | .ldIXLN n => Sys2Proof.Machine.execLdIXLN n s
  | .ldPPIX dst src => Sys2Proof.Machine.execLdPPIX dst src s
  | .addAIXH => Sys2Proof.Machine.execAddAIXH s
  | .addAIXL => Sys2Proof.Machine.execAddAIXL s
  | .adcAIXH => Sys2Proof.Machine.execAdcAIXH s
  | .adcAIXL => Sys2Proof.Machine.execAdcAIXL s
  | .subIXH => Sys2Proof.Machine.execSubIXH s
  | .subIXL => Sys2Proof.Machine.execSubIXL s
  | .sbcAIXH => Sys2Proof.Machine.execSbcAIXH s
  | .sbcAIXL => Sys2Proof.Machine.execSbcAIXL s
  | .andIXH => Sys2Proof.Machine.execAndIXH s
  | .andIXL => Sys2Proof.Machine.execAndIXL s
  | .xorIXH => Sys2Proof.Machine.execXorIXH s
  | .xorIXL => Sys2Proof.Machine.execXorIXL s
  | .orIXH => Sys2Proof.Machine.execOrIXH s
  | .orIXL => Sys2Proof.Machine.execOrIXL s
  | .cpIXH => Sys2Proof.Machine.execCpIXH s
  | .cpIXL => Sys2Proof.Machine.execCpIXL s
  | .rlcIndIXd d => Sys2Proof.Machine.execRlcIndIXd d s
  | .rlcIndIXdR d r => Sys2Proof.Machine.execRlcIndIXdR d r s
  | .rrcIndIXd d => Sys2Proof.Machine.execRrcIndIXd d s
  | .rrcIndIXdR d r => Sys2Proof.Machine.execRrcIndIXdR d r s
  | .rlIndIXd d => Sys2Proof.Machine.execRlIndIXd d s
  | .rlIndIXdR d r => Sys2Proof.Machine.execRlIndIXdR d r s
  | .rrIndIXd d => Sys2Proof.Machine.execRrIndIXd d s
  | .rrIndIXdR d r => Sys2Proof.Machine.execRrIndIXdR d r s
  | .slaIndIXd d => Sys2Proof.Machine.execSlaIndIXd d s
  | .slaIndIXdR d r => Sys2Proof.Machine.execSlaIndIXdR d r s
  | .sraIndIXd d => Sys2Proof.Machine.execSraIndIXd d s
  | .sraIndIXdR d r => Sys2Proof.Machine.execSraIndIXdR d r s
  | .srlIndIXd d => Sys2Proof.Machine.execSrlIndIXd d s
  | .srlIndIXdR d r => Sys2Proof.Machine.execSrlIndIXdR d r s
  | .sllIndIXd d => Sys2Proof.Machine.execSllIndIXd d s
  | .sllIndIXdR d r => Sys2Proof.Machine.execSllIndIXdR d r s
  | .bitBIndIXd b d => Sys2Proof.Machine.execBitBIndIXd b d s
  | .bitBIndIXdMirror b d r => Sys2Proof.Machine.execBitBIndIXdMirror b d r s
  | .resBIndIXd b d => Sys2Proof.Machine.execResBIndIXd b d s
  | .resBIndIXdR b d r => Sys2Proof.Machine.execResBIndIXdR b d r s
  | .setBIndIXd b d => Sys2Proof.Machine.execSetBIndIXd b d s
  | .setBIndIXdR b d r => Sys2Proof.Machine.execSetBIndIXdR b d r s
  | .ddPass inner => Sys2Proof.Machine.execDdPass inner s
  | .ddOverride => Sys2Proof.Machine.execDdOverride s
  | .ldIYNn nn => Sys2Proof.Machine.execLdIYNn nn s
  | .ldIndNnIY nn => Sys2Proof.Machine.execLdIndNnIY nn s
  | .ldIYIndNn nn => Sys2Proof.Machine.execLdIYIndNn nn s
  | .incIY => Sys2Proof.Machine.execIncIY s
  | .decIY => Sys2Proof.Machine.execDecIY s
  | .addIYRr pp => Sys2Proof.Machine.execAddIYRr pp s
  | .incIndIYd d => Sys2Proof.Machine.execIncIndIYd d s
  | .decIndIYd d => Sys2Proof.Machine.execDecIndIYd d s
  | .ldIndIYdN d n => Sys2Proof.Machine.execLdIndIYdN d n s
  | .ldRIndIYd r d => Sys2Proof.Machine.execLdRIndIYd r d s
  | .ldIndIYdR d r => Sys2Proof.Machine.execLdIndIYdR d r s
  | .addAIndIYd d => Sys2Proof.Machine.execAddAIndIYd d s
  | .adcAIndIYd d => Sys2Proof.Machine.execAdcAIndIYd d s
  | .subIndIYd d => Sys2Proof.Machine.execSubIndIYd d s
  | .sbcAIndIYd d => Sys2Proof.Machine.execSbcAIndIYd d s
  | .andIndIYd d => Sys2Proof.Machine.execAndIndIYd d s
  | .xorIndIYd d => Sys2Proof.Machine.execXorIndIYd d s
  | .orIndIYd d => Sys2Proof.Machine.execOrIndIYd d s
  | .cpIndIYd d => Sys2Proof.Machine.execCpIndIYd d s
  | .popIY => Sys2Proof.Machine.execPopIY s
  | .exIndSPIY => Sys2Proof.Machine.execExIndSPIY s
  | .pushIY => Sys2Proof.Machine.execPushIY s
  | .jpIndIY => Sys2Proof.Machine.execJpIndIY s
  | .ldSPIY => Sys2Proof.Machine.execLdSPIY s
  | .incIYH => Sys2Proof.Machine.execIncIYH s
  | .decIYH => Sys2Proof.Machine.execDecIYH s
  | .ldIYHN n => Sys2Proof.Machine.execLdIYHN n s
  | .incIYL => Sys2Proof.Machine.execIncIYL s
  | .decIYL => Sys2Proof.Machine.execDecIYL s
  | .ldIYLN n => Sys2Proof.Machine.execLdIYLN n s
  | .ldPPIY dst src => Sys2Proof.Machine.execLdPPIY dst src s
  | .addAIYH => Sys2Proof.Machine.execAddAIYH s
  | .addAIYL => Sys2Proof.Machine.execAddAIYL s
  | .adcAIYH => Sys2Proof.Machine.execAdcAIYH s
  | .adcAIYL => Sys2Proof.Machine.execAdcAIYL s
  | .subIYH => Sys2Proof.Machine.execSubIYH s
  | .subIYL => Sys2Proof.Machine.execSubIYL s
  | .sbcAIYH => Sys2Proof.Machine.execSbcAIYH s
  | .sbcAIYL => Sys2Proof.Machine.execSbcAIYL s
  | .andIYH => Sys2Proof.Machine.execAndIYH s
  | .andIYL => Sys2Proof.Machine.execAndIYL s
  | .xorIYH => Sys2Proof.Machine.execXorIYH s
  | .xorIYL => Sys2Proof.Machine.execXorIYL s
  | .orIYH => Sys2Proof.Machine.execOrIYH s
  | .orIYL => Sys2Proof.Machine.execOrIYL s
  | .cpIYH => Sys2Proof.Machine.execCpIYH s
  | .cpIYL => Sys2Proof.Machine.execCpIYL s
  | .rlcIndIYd d => Sys2Proof.Machine.execRlcIndIYd d s
  | .rlcIndIYdR d r => Sys2Proof.Machine.execRlcIndIYdR d r s
  | .rrcIndIYd d => Sys2Proof.Machine.execRrcIndIYd d s
  | .rrcIndIYdR d r => Sys2Proof.Machine.execRrcIndIYdR d r s
  | .rlIndIYd d => Sys2Proof.Machine.execRlIndIYd d s
  | .rlIndIYdR d r => Sys2Proof.Machine.execRlIndIYdR d r s
  | .rrIndIYd d => Sys2Proof.Machine.execRrIndIYd d s
  | .rrIndIYdR d r => Sys2Proof.Machine.execRrIndIYdR d r s
  | .slaIndIYd d => Sys2Proof.Machine.execSlaIndIYd d s
  | .slaIndIYdR d r => Sys2Proof.Machine.execSlaIndIYdR d r s
  | .sraIndIYd d => Sys2Proof.Machine.execSraIndIYd d s
  | .sraIndIYdR d r => Sys2Proof.Machine.execSraIndIYdR d r s
  | .srlIndIYd d => Sys2Proof.Machine.execSrlIndIYd d s
  | .srlIndIYdR d r => Sys2Proof.Machine.execSrlIndIYdR d r s
  | .sllIndIYd d => Sys2Proof.Machine.execSllIndIYd d s
  | .sllIndIYdR d r => Sys2Proof.Machine.execSllIndIYdR d r s
  | .bitBIndIYd b d => Sys2Proof.Machine.execBitBIndIYd b d s
  | .bitBIndIYdMirror b d r => Sys2Proof.Machine.execBitBIndIYdMirror b d r s
  | .resBIndIYd b d => Sys2Proof.Machine.execResBIndIYd b d s
  | .resBIndIYdR b d r => Sys2Proof.Machine.execResBIndIYdR b d r s
  | .setBIndIYd b d => Sys2Proof.Machine.execSetBIndIYd b d s
  | .setBIndIYdR b d r => Sys2Proof.Machine.execSetBIndIYdR b d r s
  | .fdPass inner => Sys2Proof.Machine.execFdPass inner s
  | .fdOverride => Sys2Proof.Machine.execFdOverride s

end Sys2Proof.Machine
end

