-- ==== Sys2Proof/Machine/Place.lean ====
section
/-! DEFINITION. Bytes stored where the machine fetches, through the bank map, into ROM as well as RAM: what a loader of ROM or RAM
contents does before a run (00_scope R6; log entry 9). No step calls it. -/

namespace Sys2Proof.Machine

/-- Store a byte at a memory address, in the cell of RAM or of the ROM pool that the bank map gives (20_memory R125). -/
def State.placeByte (s : State) (addr : Word) (v : Byte) : State :=
  match s.place addr with
  | .rom k => { s with rom := cellSet s.rom k v }
  | .ram k => { s with ram := cellSet s.ram k v }

/-- The four bytes stored through the map that the next fetch uses, where that differs from the map as it stands only by the
DOS-mode update (20_memory R130), which is left to the step. -/
def State.placeBytes (s : State) (b0 b1 b2 b3 : Byte) : State :=
  let t := (((s.dosUpdate.placeByte s.pc b0).placeByte (s.pc + 1) b1).placeByte (s.pc + 2) b2).placeByte (s.pc + 3) b3
  { s with ram := t.ram, rom := t.rom }

/-- `s` ready to fetch these bytes at its next step: not halted, and a due interrupt held off as after `EI` (60_exceptions R840). -/
def placeInstr (s : State) (b0 b1 b2 b3 : Byte) : State :=
  let s1 := s.placeBytes b0 b1 b2 b3
  { s1 with halted := false, eiPos := if s1.acceptsInt then (s1.t : Int) else s1.eiPos }

end Sys2Proof.Machine
end

