-- ==== Sys2Proof/Machine/Step.lean ====
section
/-! DEFINITION. One step of the machine, an `exec` and the boundary after it (00_scope R18, 60_exceptions R860); and the state with an
instruction placed where the next step fetches. -/

namespace Sys2Proof.Machine

/-- The `exec` part of a step: interrupt entry, else one halted cycle, else the DOS-mode update and one instruction (60_exceptions
R860). -/
def execPart (s : State) : Host.Outcome State Fault Refusal :=
  if s.acceptsInt then s.enterInt
  else if s.halted then .next s.haltedCycle
  else exec s.dosUpdate.fetchInstr s.dosUpdate

/-- One step: `exec`, then `boundary` (00_scope R18, 60_exceptions R860). -/
def step (s : State) : Host.Outcome State Fault Refusal :=
  andThen (execPart s) boundary

/-- `n` steps. -/
def steps (n : Nat) (s : State) : Host.Outcome State Fault Refusal :=
  match n with
  | 0 => .next s
  | k + 1 => andThen (step s) (steps k)

/-- The run of the machine launched at `s`, up to its `n`-th step: `boundary; (exec; boundary)*` (00_scope R18, 60_exceptions R860). -/
def run (n : Nat) (s : State) : Host.Outcome State Fault Refusal := andThen (launch s) (steps n)

/-- `s` with the instruction of bits `w` stored at PC and the three bytes after it, as spec/opcode_table.json writes it, padded with
zero bytes; a halted CPU is resumed and a due interrupt held off, so that the next step fetches it (log entries 9 and 19). -/
def State.withFetchWord (s : State) (nbits w : Nat) : State :=
  placeInstr s (tableByte nbits w 0) (tableByte nbits w 1) (tableByte nbits w 2) (tableByte nbits w 3)

end Sys2Proof.Machine
end

