-- ==== Sys2Proof/Safety.lean ====
section
/-! DEFINITION. What holds of every state of a run: the canonical form of the memories, the Clock, the tape, the disks and the
controller; and what it is for an instruction or a step to complete. -/

namespace Sys2Proof.Machine

/-- RAM and the ROM pool are in canonical form: keys rising, inside the pool, no cell listed at 0x00 (10_state R65; 00_scope R6). -/
abbrev State.MemoryInv (s : State) : Prop := Memory.wf ramCells s.ram = true ∧ Memory.wf romCells s.rom = true

/-- The Clock between steps: `t` lies inside the frame, `T_total` counts the whole frames in its 64 bits, `ei_pos` is not ahead of `t`
(10_state R49, R60 to R62; 60_exceptions R862). -/
abbrev State.ClockInv (s : State) : Prop :=
  s.t < s.cfg.frameLen ∧ s.tTotal = BitVec.ofNat 64 (s.frameCounter * s.cfg.frameLen) ∧ s.eiPos ≤ (s.t : Int)

/-- The positions of the tape lie within it and its level is 0x00 or 0xFF (10_state R75, R78, R80). -/
abbrev Tape.Inv (tp : Tape) : Prop :=
  (tp.bit = 0x00 ∨ tp.bit = 0xFF) ∧ tp.resumePtr ≤ tp.image.length ∧ tp.playPtr.getD 0 ≤ tp.image.length

/-- Every drive holds a Track Store with a track for each cylinder and side, no head stands beyond `MAX_PHYS_CYL`, and only the two
request bits of `wd.rqs` are used (10_state R82, R83, R85, R95). -/
abbrev State.DiskInv (s : State) : Prop :=
  (∀ d, (s.disks.get d).wf = true) ∧ (∀ d, (s.drives.get d).cyl ≤ s.cfg.maxPhysCyl) ∧ s.wd.rqs &&& 0x3F = 0

/-- Every invariant of the model together. -/
abbrev State.Inv (s : State) : Prop := s.MemoryInv ∧ s.ClockInv ∧ s.tape.Inv ∧ s.DiskInv

/-- The outcome is a next state: no fault and no refusal. -/
abbrev Completes (r : Result) : Prop := ∃ t, r = .next t

/-- No host request is pending (60_exceptions R868). -/
abbrev State.Quiet (s : State) : Prop := s.requests = []

end Sys2Proof.Machine
end

