-- ==== Sys2Proof/Certificates/Slice0/Obligations.lean ====
section
/-! DEFINITION. The statements for the provers, one `Obligations.<Name> : Prop` each, and before them the vocabulary they are written
in: the registers an instruction computes with, what it is for an instruction to complete with given registers, memory and time, and
the spec's arithmetic written once more in plain numbers. -/

namespace Sys2Proof.Claim

open Sys2Proof.Machine

/-! ### What an instruction leaves -/

/-- The registers that instructions compute with (10_state R40, R42 to R44). -/
structure Cpu where
  a : Byte
  f : Byte
  b : Byte
  c : Byte
  d : Byte
  e : Byte
  h : Byte
  l : Byte
  ix : Word
  iy : Word
  sp : Word
  pc : Word

/-- These registers in a state. -/
def cpu (s : State) : Cpu := ⟨s.a, s.f, s.b, s.c, s.d, s.e, s.h, s.l, s.ix, s.iy, s.sp, s.pc⟩

/-- The registers once the `len` bytes of the instruction are fetched: PC stands after them, the rest is as before. -/
def past (s : State) (len : Word) : Cpu := { cpu s with pc := s.pc + len }

/-- The registers with `r` given the value `v`. -/
def Cpu.put (c : Cpu) (r : Reg8) (v : Byte) : Cpu :=
  match r with
  | .b => { c with b := v }
  | .c => { c with c := v }
  | .d => { c with d := v }
  | .e => { c with e := v }
  | .h => { c with h := v }
  | .l => { c with l := v }
  | .a => { c with a := v }

/-- BC given a word: the high byte to B, the low byte to C (00_scope R12). -/
def Cpu.putBC (c : Cpu) (v : Word) : Cpu := { c with b := hiByte v, c := loByte v }
/-- DE given a word. -/
def Cpu.putDE (c : Cpu) (v : Word) : Cpu := { c with d := hiByte v, e := loByte v }
/-- HL given a word. -/
def Cpu.putHL (c : Cpu) (v : Word) : Cpu := { c with h := hiByte v, l := loByte v }
/-- AF given a word, all eight bits of F. -/
def Cpu.putAF (c : Cpu) (v : Word) : Cpu := { c with a := hiByte v, f := loByte v }

/-- A pair of a `dd` or `ss` code given a word. -/
def Cpu.putSP (c : Cpu) (p : PairSP) (v : Word) : Cpu :=
  match p with
  | .bc => c.putBC v
  | .de => c.putDE v
  | .hl => c.putHL v
  | .sp => { c with sp := v }

/-- A pair of a `qq` code given a word. -/
def Cpu.putQq (c : Cpu) (p : PairAF) (v : Word) : Cpu :=
  match p with
  | .bc => c.putBC v
  | .de => c.putDE v
  | .hl => c.putHL v
  | .af => c.putAF v

/-- A half of IX, or the plain register, given a byte (30_encoding R173). -/
def Cpu.putIX (c : Cpu) (r : RegXY) (v : Byte) : Cpu :=
  match r with
  | .b => { c with b := v }
  | .c => { c with c := v }
  | .d => { c with d := v }
  | .e => { c with e := v }
  | .xh => { c with ix := mkWord v (loByte c.ix) }
  | .xl => { c with ix := mkWord (hiByte c.ix) v }
  | .a => { c with a := v }

/-- A half of IY, or the plain register, given a byte (30_encoding R173). -/
def Cpu.putIY (c : Cpu) (r : RegXY) (v : Byte) : Cpu :=
  match r with
  | .b => { c with b := v }
  | .c => { c with c := v }
  | .d => { c with d := v }
  | .e => { c with e := v }
  | .xh => { c with iy := mkWord v (loByte c.iy) }
  | .xl => { c with iy := mkWord (hiByte c.iy) v }
  | .a => { c with a := v }

/-- A half of IX, or the plain register. -/
def getIX (s : State) (r : RegXY) : Byte :=
  match r with
  | .b => s.b
  | .c => s.c
  | .d => s.d
  | .e => s.e
  | .xh => hiByte s.ix
  | .xl => loByte s.ix
  | .a => s.a

/-- A half of IY, or the plain register. -/
def getIY (s : State) (r : RegXY) : Byte :=
  match r with
  | .b => s.b
  | .c => s.c
  | .d => s.d
  | .e => s.e
  | .xh => hiByte s.iy
  | .xl => loByte s.iy
  | .a => s.a

/-- The pair added to IX. -/
def addendIX (s : State) (p : PairXY) : Word :=
  match p with
  | .bc => mkWord s.b s.c
  | .de => mkWord s.d s.e
  | .xy => s.ix
  | .sp => s.sp

/-- The pair added to IY. -/
def addendIY (s : State) (p : PairXY) : Word :=
  match p with
  | .bc => mkWord s.b s.c
  | .de => mkWord s.d s.e
  | .xy => s.iy
  | .sp => s.sp

/-- Memory is unchanged: every address reads as before, and every cell of RAM, mapped or not, is as before. -/
def same (s t : State) : Prop := (∀ x, t.memRead x = s.memRead x) ∧ t.ram = s.ram

/-- No cell of RAM has changed. What an address reads as may change, through the paging latches. -/
def cells (s t : State) : Prop := t.ram = s.ram

/-- The byte `v` is stored at `addr` and nowhere else: an address reads `v` if it leads to the same cell of RAM as `addr`, and as
before if not; the same of every cell of RAM, mapped or not. Where `addr` leads to ROM, nothing is stored (20_memory R127). -/
def stores (addr : Word) (v : Byte) (s t : State) : Prop :=
  (∀ x, t.memRead x = if s.place x = s.place addr ∧ (s.place addr).isRam then v else s.memRead x) ∧
  (∀ k, cellGet t.ram k = if s.place addr = .ram k then v else cellGet s.ram k)

/-- The word `v` is stored at `addr`, its low byte, and at `addr + 1`, its high byte, and nowhere else (00_scope R14). -/
def storesWord (addr v : Word) (s t : State) : Prop :=
  (∀ x, t.memRead x =
    if s.place x = s.place addr ∧ (s.place addr).isRam then loByte v
    else if s.place x = s.place (addr + 1) ∧ (s.place (addr + 1)).isRam then hiByte v
    else s.memRead x) ∧
  (∀ k, cellGet t.ram k =
    if s.place addr = .ram k then loByte v else if s.place (addr + 1) = .ram k then hiByte v else cellGet s.ram k)

/-- The word at `addr`, low byte first (00_scope R14). -/
def wordAt (s : State) (addr : Word) : Word := mkWord (s.memRead (addr + 1)) (s.memRead addr)

/-- Everything but the registers of `Cpu`, the refresh count, the time and the cells of RAM is in `t` as in `u`: the alternate
registers, I and the top bit of R, the interrupt state, the paging latches, the ports, the tape, the disks, the controller, the
inputs and the parameters. -/
def Elsewhere (u t : State) : Prop :=
  t = { u with
    a := t.a
    f := t.f
    b := t.b
    c := t.c
    d := t.d
    e := t.e
    h := t.h
    l := t.l
    ix := t.ix
    iy := t.iy
    sp := t.sp
    pc := t.pc
    rLo := t.rLo
    t := t.t
    ram := t.ram }

/-- From `s`, the outcome is a next state: `m1` opcode fetches and `n` T-states later, with the registers `c`, memory related to that of
`s` by `mem`, and everything else as in `u`. -/
def Yields (r : Result) (s u : State) (m1 : BitVec 7) (n : Nat) (c : Cpu) (mem : State → State → Prop) : Prop :=
  ∃ t, r = .next t ∧ cpu t = c ∧ t.rLo = s.rLo + m1 ∧ t.t = s.t + n ∧ mem s t ∧ Elsewhere u t

/-- The bytes `bs` are the instruction `i`, and from `s` it completes as `Yields` says; outside the registers, the time and RAM the
next state is as `u`. -/
def Takes (bs : List Byte) (i : Instr) (s u : State) (m1 : BitVec 7) (n : Nat) (c : Cpu) (mem : State → State → Prop) : Prop :=
  decode bs = .ok (i, []) ∧ Yields (exec i s) s u m1 n c mem

/-- As `Takes`, with everything outside the registers, the time and RAM unchanged. -/
def Runs (bs : List Byte) (i : Instr) (s : State) (m1 : BitVec 7) (n : Nat) (c : Cpu) (mem : State → State → Prop) : Prop :=
  Takes bs i s s m1 n c mem

/-! ### Flags and arithmetic, in plain numbers -/

/-- The flag register of eight bits, bit 7 first: SF ZF YF HF XF PF NF CF (00_scope R13). -/
def bits (sf zf yf hf xf pf nf cf : Bool) : Byte :=
  BitVec.ofNat 8 (128 * sf.toNat + 64 * zf.toNat + 32 * yf.toNat + 16 * hf.toNat + 8 * xf.toNat + 4 * pf.toNat + 2 * nf.toNat +
    cf.toNat)

/-- A flag register with SF, ZF, YF, XF of a result and the other bits as given. -/
def flagsOf (res : Byte) (hf pf nf cf : Bool) : Byte :=
  bits (decide (128 ≤ res.toNat)) (decide (res = 0)) (res.getLsbD 5) hf (res.getLsbD 3) pf nf cf

/-- An even number of 1 bits (00_scope R11). -/
def even (v : Byte) : Bool := decide (((List.range 8).map (fun k => (v.getLsbD k).toNat)).sum % 2 = 0)

/-- Bit `k` of F. -/
def Cpu.bit (c : Cpu) (k : Nat) : Bool := c.f.getLsbD k

/-- CF as a number. -/
def Cpu.carry (c : Cpu) : Nat := (c.bit 0).toNat

/-- The condition of a code `ccc` (10_state R54): Z is bit 6 of F, C bit 0, PE bit 2, M bit 7. -/
def holds (f : Byte) (cc : Cond) : Bool :=
  match cc with
  | .nz => !f.getLsbD 6
  | .z => f.getLsbD 6
  | .nc => !f.getLsbD 0
  | .c => f.getLsbD 0
  | .po => !f.getLsbD 2
  | .pe => f.getLsbD 2
  | .p => !f.getLsbD 7
  | .m => f.getLsbD 7

/-- `A <- A + v + k` with the flags of an addition: half carry out of the low four bits, overflow where the sum of the signed values is
not the signed value of the result (43_alu8 R331). -/
def Cpu.plus (c : Cpu) (v : Byte) (k : Nat) : Cpu :=
  let res := BitVec.ofNat 8 (c.a.toNat + v.toNat + k)
  { c with
    a := res
    f := flagsOf res (decide (15 < c.a.toNat % 16 + v.toNat % 16 + k)) (decide (c.a.toInt + v.toInt + k ≠ res.toInt)) false
      (decide (255 < c.a.toNat + v.toNat + k)) }

/-- `a - v - k` mod 256. -/
def minus (a v : Byte) (k : Nat) : Byte := BitVec.ofInt 8 ((a.toNat : Int) - v.toNat - k)

/-- The flags of a subtraction `a - v - k`, with YF and XF taken from the byte `yx` (43_alu8 R332). -/
def minusFlags (a v : Byte) (k : Nat) (yx : Byte) : Byte :=
  let res := minus a v k
  bits (decide (128 ≤ res.toNat)) (decide (res = 0)) (yx.getLsbD 5) (decide (a.toNat % 16 < v.toNat % 16 + k)) (yx.getLsbD 3)
    (decide (a.toInt - v.toInt - k ≠ res.toInt)) true (decide (a.toNat < v.toNat + k))

/-- `A <- A - v - k` with its flags (43_alu8 R332). -/
def Cpu.minus (c : Cpu) (v : Byte) (k : Nat) : Cpu :=
  { c with a := Claim.minus c.a v k, f := minusFlags c.a v k (Claim.minus c.a v k) }

/-- `CP v`: A stays, the flags are those of `A - v` with YF and XF of the operand (43_alu8 R371). -/
def Cpu.compare (c : Cpu) (v : Byte) : Cpu := { c with f := minusFlags c.a v 0 v }

/-- `A <- res` with the flags of a logic operation; HF is `hf` (43_alu8 R333). -/
def Cpu.logic (c : Cpu) (res : Byte) (hf : Bool) : Cpu := { c with a := res, f := flagsOf res hf (even res) false false }

/-- `inc8(v)` (43_alu8 R334). -/
def inc (v : Byte) : Byte := BitVec.ofNat 8 (v.toNat + 1)
/-- The flags of `inc8(v)`, CF from `c` (43_alu8 R334). -/
def Cpu.incFlags (c : Cpu) (v : Byte) : Cpu :=
  { c with f := flagsOf (inc v) (decide (v.toNat % 16 = 15)) (decide (v = 0x7F)) false (c.bit 0) }
/-- `dec8(v)` (43_alu8 R334). -/
def dec (v : Byte) : Byte := BitVec.ofNat 8 (v.toNat + 255)
/-- The flags of `dec8(v)`, CF from `c` (43_alu8 R334). -/
def Cpu.decFlags (c : Cpu) (v : Byte) : Cpu :=
  { c with f := flagsOf (dec v) (decide (v.toNat % 16 = 0)) (decide (v = 0x80)) true (c.bit 0) }

/-- `ADD`, 16 bits: the sum and the registers with its flags, SF, ZF, PF kept (45_alu16 R421). -/
def sum16 (a v : Word) (k : Nat) : Word := BitVec.ofNat 16 (a.toNat + v.toNat + k)
/-- The flags of `ADD HL,ss` and its index forms (45_alu16 R421). -/
def Cpu.addFlags (c : Cpu) (a v : Word) : Cpu :=
  { c with
    f := bits (c.bit 7) (c.bit 6) ((sum16 a v 0).getLsbD 13) (decide (4095 < a.toNat % 4096 + v.toNat % 4096))
      ((sum16 a v 0).getLsbD 11) (c.bit 2) false (decide (65535 < a.toNat + v.toNat)) }
/-- The flags of `ADC HL,ss` (45_alu16 R422). -/
def Cpu.adcFlags (c : Cpu) (a v : Word) (k : Nat) : Cpu :=
  let res := sum16 a v k
  { c with
    f := bits (decide (32768 ≤ res.toNat)) (decide (res = 0)) (res.getLsbD 13)
      (decide (4095 < a.toNat % 4096 + v.toNat % 4096 + k)) (res.getLsbD 11) (decide (a.toInt + v.toInt + k ≠ res.toInt)) false
      (decide (65535 < a.toNat + v.toNat + k)) }
/-- `a - v - k` mod 65536. -/
def diff16 (a v : Word) (k : Nat) : Word := BitVec.ofInt 16 ((a.toNat : Int) - v.toNat - k)
/-- The flags of `SBC HL,ss` (45_alu16 R423). -/
def Cpu.sbcFlags (c : Cpu) (a v : Word) (k : Nat) : Cpu :=
  let res := diff16 a v k
  { c with
    f := bits (decide (32768 ≤ res.toNat)) (decide (res = 0)) (res.getLsbD 13)
      (decide (a.toNat % 4096 < v.toNat % 4096 + k)) (res.getLsbD 11) (decide (a.toInt - v.toInt - k ≠ res.toInt)) true
      (decide (a.toNat < v.toNat + k)) }

/-! The shifts as functions of the byte and of CF: the result and the bit shifted out (46_rotate_shift R441, 50_undocumented R578). -/

/-- Rotate left, bit 7 to bit 0. -/
def rlc (v : Byte) (_ : Nat) : Byte × Bool := (BitVec.ofNat 8 (2 * v.toNat + v.toNat / 128), v.getLsbD 7)
/-- Rotate right, bit 0 to bit 7. -/
def rrc (v : Byte) (_ : Nat) : Byte × Bool := (BitVec.ofNat 8 (v.toNat / 2 + 128 * (v.toNat % 2)), v.getLsbD 0)
/-- Rotate left through CF. -/
def rl (v : Byte) (k : Nat) : Byte × Bool := (BitVec.ofNat 8 (2 * v.toNat + k), v.getLsbD 7)
/-- Rotate right through CF. -/
def rr (v : Byte) (k : Nat) : Byte × Bool := (BitVec.ofNat 8 (v.toNat / 2 + 128 * k), v.getLsbD 0)
/-- Shift left, 0 into bit 0. -/
def sla (v : Byte) (_ : Nat) : Byte × Bool := (BitVec.ofNat 8 (2 * v.toNat), v.getLsbD 7)
/-- Shift right, bit 7 kept. -/
def sra (v : Byte) (_ : Nat) : Byte × Bool := (BitVec.ofNat 8 (v.toNat / 2 + 128 * (v.toNat / 128)), v.getLsbD 0)
/-- Shift right, 0 into bit 7. -/
def srl (v : Byte) (_ : Nat) : Byte × Bool := (BitVec.ofNat 8 (v.toNat / 2), v.getLsbD 0)
/-- Shift left, 1 into bit 0. -/
def sll (v : Byte) (_ : Nat) : Byte × Bool := (BitVec.ofNat 8 (2 * v.toNat + 1), v.getLsbD 7)

/-- The registers with the flags of a shift: parity of the result, CF the bit shifted out (46_rotate_shift R441). -/
def Cpu.shiftFlags (c : Cpu) (p : Byte × Bool) : Cpu := { c with f := flagsOf p.1 false (even p.1) false p.2 }

/-- The registers with the flags of BIT: `b` the bit, `v` the byte tested, YF and XF from `yx` (47_bit R490). -/
def Cpu.bitFlags (c : Cpu) (b : BitVec 3) (v yx : Byte) : Cpu :=
  { c with
    f := bits (decide (b = 7) && v.getLsbD 7) (!v.getLsbD b.toNat) (yx.getLsbD 5) true (yx.getLsbD 3) (!v.getLsbD b.toNat)
      false (c.bit 0) }

/-- The byte with bit `b` set. -/
def withSet (b : BitVec 3) (v : Byte) : Byte := v ||| BitVec.ofNat 8 (2 ^ b.toNat)
/-- The byte with bit `b` clear. -/
def withReset (b : BitVec 3) (v : Byte) : Byte := v &&& BitVec.ofNat 8 (255 - 2 ^ b.toNat)

/-- SF, ZF, YF, XF, PF (parity) of a byte, HF and NF 0, CF kept: `IN r,(C)`, RLD and RRD. -/
def Cpu.parityFlags (c : Cpu) (v : Byte) : Cpu := { c with f := flagsOf v false (even v) false (c.bit 0) }

/-! ### Families of forms -/

/-- The five operand forms of an arithmetic or logic operation on A with code `y` (43_alu8 R335). -/
def OnOperand (y : BitVec 3) (ofR : Reg8 → Instr) (ofN : Byte → Instr) (ofHL : Instr) (ofIX ofIY : Byte → Instr)
    (op : Cpu → Byte → Cpu) : Prop :=
  ∀ (s : State) (r : Reg8) (n d : Byte),
    Runs [opXYZ 2 y r.code] (ofR r) s 1 4 (op (past s 1) (s.reg r)) same ∧
    Runs [opXYZ 3 y 6, n] (ofN n) s 1 7 (op (past s 2) n) same ∧
    Runs [opXYZ 2 y 6] ofHL s 1 7 (op (past s 1) (s.memRead s.hl)) same ∧
    Runs [0xDD, opXYZ 2 y 6, d] (ofIX d) s 2 19 (op (past s 3) (s.memRead (s.ix + d.signExtend 16))) same ∧
    Runs [0xFD, opXYZ 2 y 6, d] (ofIY d) s 2 19 (op (past s 3) (s.memRead (s.iy + d.signExtend 16))) same

/-- The forms of an arithmetic or logic operation on A with a half of an index register (50_undocumented R577). -/
def OnHalf (y : BitVec 3) (ofXH ofXL ofYH ofYL : Instr) (op : Cpu → Byte → Cpu) : Prop :=
  ∀ s : State,
    Runs [0xDD, opXYZ 2 y 4] ofXH s 2 8 (op (past s 2) (hiByte s.ix)) same ∧
    Runs [0xDD, opXYZ 2 y 5] ofXL s 2 8 (op (past s 2) (loByte s.ix)) same ∧
    Runs [0xFD, opXYZ 2 y 4] ofYH s 2 8 (op (past s 2) (hiByte s.iy)) same ∧
    Runs [0xFD, opXYZ 2 y 5] ofYL s 2 8 (op (past s 2) (loByte s.iy)) same

/-- The four forms of a shift with code `y` (46_rotate_shift R441): the operand gets the result. -/
def OnShift (y : BitVec 3) (ofR : Reg8 → Instr) (ofHL : Instr) (ofIX ofIY : Byte → Instr) (sh : Byte → Nat → Byte × Bool) : Prop :=
  ∀ (s : State) (r : Reg8) (d : Byte),
    let out (v : Byte) := sh v (cpu s).carry
    let mx := s.memRead (s.ix + d.signExtend 16)
    let my := s.memRead (s.iy + d.signExtend 16)
    Runs [0xCB, opXYZ 0 y r.code] (ofR r) s 2 8 (((past s 2).shiftFlags (out (s.reg r))).put r (out (s.reg r)).1) same ∧
    Runs [0xCB, opXYZ 0 y 6] ofHL s 2 15 ((past s 2).shiftFlags (out (s.memRead s.hl)))
      (stores s.hl (out (s.memRead s.hl)).1) ∧
    Runs [0xDD, 0xCB, d, opXYZ 0 y 6] (ofIX d) s 2 23 ((past s 4).shiftFlags (out mx))
      (stores (s.ix + d.signExtend 16) (out mx).1) ∧
    Runs [0xFD, 0xCB, d, opXYZ 0 y 6] (ofIY d) s 2 23 ((past s 4).shiftFlags (out my))
      (stores (s.iy + d.signExtend 16) (out my).1)

/-- The two forms of a shift that also copy the result into a register (50_undocumented R581). -/
def OnShiftCopy (y : BitVec 3) (ofIX ofIY : Byte → Reg8 → Instr) (sh : Byte → Nat → Byte × Bool) : Prop :=
  ∀ (s : State) (r : Reg8) (d : Byte),
    let mx := sh (s.memRead (s.ix + d.signExtend 16)) (cpu s).carry
    let my := sh (s.memRead (s.iy + d.signExtend 16)) (cpu s).carry
    Runs [0xDD, 0xCB, d, opXYZ 0 y r.code] (ofIX d r) s 2 23 (((past s 4).shiftFlags mx).put r mx.1)
      (stores (s.ix + d.signExtend 16) mx.1) ∧
    Runs [0xFD, 0xCB, d, opXYZ 0 y r.code] (ofIY d r) s 2 23 (((past s 4).shiftFlags my).put r my.1)
      (stores (s.iy + d.signExtend 16) my.1)

/-- The six forms of SET or RES with field `x`: the bit of the operand is changed, and copied into a register in the last two (47_bit
R495 to R502, 50_undocumented R582). -/
def OnBit (x : BitVec 2) (ofR : BitVec 3 → Reg8 → Instr) (ofHL : BitVec 3 → Instr) (ofIX ofIY : BitVec 3 → Byte → Instr)
    (ofIXR ofIYR : BitVec 3 → Byte → Reg8 → Instr) (g : BitVec 3 → Byte → Byte) : Prop :=
  ∀ (s : State) (b : BitVec 3) (r : Reg8) (d : Byte),
    let ax := s.ix + d.signExtend 16
    let ay := s.iy + d.signExtend 16
    Runs [0xCB, opXYZ x b r.code] (ofR b r) s 2 8 ((past s 2).put r (g b (s.reg r))) same ∧
    Runs [0xCB, opXYZ x b 6] (ofHL b) s 2 15 (past s 2) (stores s.hl (g b (s.memRead s.hl))) ∧
    Runs [0xDD, 0xCB, d, opXYZ x b 6] (ofIX b d) s 2 23 (past s 4) (stores ax (g b (s.memRead ax))) ∧
    Runs [0xFD, 0xCB, d, opXYZ x b 6] (ofIY b d) s 2 23 (past s 4) (stores ay (g b (s.memRead ay))) ∧
    Runs [0xDD, 0xCB, d, opXYZ x b r.code] (ofIXR b d r) s 2 23 ((past s 4).put r (g b (s.memRead ax)))
      (stores ax (g b (s.memRead ax))) ∧
    Runs [0xFD, 0xCB, d, opXYZ x b r.code] (ofIYR b d r) s 2 23 ((past s 4).put r (g b (s.memRead ay)))
      (stores ay (g b (s.memRead ay)))

/-- A relative jump with opcode byte `op`, 12 T taken and 7 T not (48_control_transfer R514). -/
def JumpsOn (op : Byte) (ofE : Byte → Instr) (taken : Byte → Bool) : Prop :=
  ∀ (s : State) (e : Byte),
    Runs [op, e] (ofE e) s 1 (if taken s.f then 12 else 7)
      { past s 2 with pc := if taken s.f then s.pc + 2 + e.signExtend 16 else s.pc + 2 } same

/-! ### Blocks and ports -/

/-- The registers after one iteration of LDI or LDD, `by1` added to HL and DE; PC goes back over the instruction where `again` says
so of the new BC (42_exchange_block R307 to R310). -/
def moved (s : State) (by1 : Word) (again : Word → Bool) : Cpu :=
  let v := s.memRead s.hl
  let n := BitVec.ofNat 8 (s.a.toNat + v.toNat)
  let bc := s.bc - 1
  let c := (((past s 2).putHL (s.hl + by1)).putDE (s.de + by1)).putBC bc
  { c with
    f := bits (s.f.getLsbD 7) (s.f.getLsbD 6) (n.getLsbD 1) false (n.getLsbD 3) (decide (bc ≠ 0)) false (s.f.getLsbD 0)
    pc := if again bc then s.pc else s.pc + 2 }

/-- The registers after one iteration of CPI or CPD, `by1` added to HL; PC goes back where `again` says so of the new BC and of the
difference (42_exchange_block R311 to R314). -/
def compared (s : State) (by1 : Word) (again : Word → Byte → Bool) : Cpu :=
  let v := s.memRead s.hl
  let r := minus s.a v 0
  let hf := decide (s.a.toNat % 16 < v.toNat % 16)
  let n := minus r 0 hf.toNat
  let bc := s.bc - 1
  let c := ((past s 2).putHL (s.hl + by1)).putBC bc
  { c with
    f := bits (decide (128 ≤ r.toNat)) (decide (r = 0)) (n.getLsbD 1) hf (n.getLsbD 3) (decide (bc ≠ 0)) true (s.f.getLsbD 0)
    pc := if again bc r then s.pc else s.pc + 2 }

/-- The machine as the port sees it: the bytes of the instruction fetched, `k` T-states after its start (20_memory R139). -/
def sampled (s : State) (len : Word) (m1 : BitVec 7) (k : Nat) : State :=
  { s with pc := s.pc + len, rLo := s.rLo + m1, t := s.t + k }

/-- `s` with the devices as a port read leaves them in `u`: the tape, the disks and their drives, the controller, and the count of free
values drawn. -/
def afterRead (s u : State) : State :=
  { s with tape := u.tape, disks := u.disks, drives := u.drives, wd := u.wd, draws := u.draws }

/-- `s` with the devices as a port write leaves them in `u`: the latches of ports 0xFE, 0x7FFD and 0x1FFD, the disks and their drives,
the controller, and the count of free values drawn. -/
def afterWrite (s u : State) : State :=
  { s with
    pFE := u.pFE
    p7FFD := u.p7FFD
    p1FFD := u.p1FFD
    disks := u.disks
    drives := u.drives
    wd := u.wd
    draws := u.draws }

/-- `s` with one more free value drawn, the model's own count (log entry 7). -/
def drew (s : State) : State := { s with draws := s.draws + 1 }

/-- A flag register after a block input or output: ZF says that the new B is 0 and NF is 1, the other bits are open (49_io R540). -/
def blockFlags (f b : Byte) : Prop := f.getLsbD 6 = decide (b = 0) ∧ f.getLsbD 1 = true

/-- One iteration of a block input with second byte `op`: the port BC is read 9 T after the start with the old B, the byte goes to
(HL), `by1` is added to HL, B counts down; where `rep` and the new B is not 0, PC goes back and 5 T more pass (49_io R543 to R546). -/
def BlockReads (op : Byte) (i : Instr) (by1 : Word) (rep : Bool) : Prop :=
  ∀ s : State,
    let r := (sampled s 2 2 9).portRead s.bc
    let b := s.b - 1
    let again := rep && decide (b ≠ 0)
    ∃ f, blockFlags f b ∧
      Takes [0xED, op] i s (drew (afterRead s r.2)) 2 (if again then 21 else 16)
        { (past s 2).putHL (s.hl + by1) with b := b, f := f, pc := if again then s.pc else s.pc + 2 } (stores s.hl r.1)

/-- One iteration of a block output with second byte `op`: B counts down, the byte at (HL) goes to the port BC with the new B 12 T after
the start, `by1` is added to HL; where `rep` and the new B is not 0, PC goes back and 5 T more pass (49_io R549 to R552). -/
def BlockWrites (op : Byte) (i : Instr) (by1 : Word) (rep : Bool) : Prop :=
  ∀ s : State,
    let b := s.b - 1
    let u := { sampled s 2 2 12 with b := b }.portWrite (mkWord b s.c) (s.memRead s.hl)
    let again := rep && decide (b ≠ 0)
    ∃ f, blockFlags f b ∧
      Takes [0xED, op] i s (drew (afterWrite s u)) 2 (if again then 21 else 16)
        { (past s 2).putHL (s.hl + by1) with b := b, f := f, pc := if again then s.pc else s.pc + 2 } cells

/-- The input and output instructions, behind a passed-over prefix too (49_io). -/
def isIo (i : Instr) : Bool :=
  match i with
  | .inAPortN _ | .inRPortC _ | .inPortC | .outPortNA _ | .outPortCR _ | .outPortC0 => true
  | .ini | .inir | .ind | .indr | .outi | .otir | .outd | .otdr => true
  | .ddPass (.inAPortN _) | .ddPass (.outPortNA _) | .fdPass (.inAPortN _) | .fdPass (.outPortNA _) => true
  | _ => false

end Sys2Proof.Claim

section

open Sys2Proof Sys2Proof.Machine Sys2Proof.Claim

/-! ### 8-bit loads -/

/-- 40_load8 R221 to R225, R232 to R234: a load into a register copies the register, the immediate or the memory byte. -/
def Obligations.RegisterLoads : Prop :=
  ∀ (s : State) (r q : Reg8) (n d : Byte) (nn : Word),
    Runs [opXYZ 1 r.code q.code] (.ldRR r q) s 1 4 ((past s 1).put r (s.reg q)) same ∧
    Runs [opXYZ 0 r.code 6, n] (.ldRN r n) s 1 7 ((past s 2).put r n) same ∧
    Runs [opXYZ 1 r.code 6] (.ldRIndHL r) s 1 7 ((past s 1).put r (s.memRead s.hl)) same ∧
    Runs [0xDD, opXYZ 1 r.code 6, d] (.ldRIndIXd r d) s 2 19 ((past s 3).put r (s.memRead (s.ix + d.signExtend 16))) same ∧
    Runs [0xFD, opXYZ 1 r.code 6, d] (.ldRIndIYd r d) s 2 19 ((past s 3).put r (s.memRead (s.iy + d.signExtend 16))) same ∧
    Runs [0x0A] .ldAIndBC s 1 7 { past s 1 with a := s.memRead s.bc } same ∧
    Runs [0x1A] .ldAIndDE s 1 7 { past s 1 with a := s.memRead s.de } same ∧
    Runs [0x3A, loByte nn, hiByte nn] (.ldAIndNn nn) s 1 13 { past s 3 with a := s.memRead nn } same

/-- 40_load8 R226 to R231, R235 to R237: a store of a byte changes that byte of memory and no register. -/
def Obligations.ByteStores : Prop :=
  ∀ (s : State) (r : Reg8) (n d : Byte) (nn : Word),
    Runs [opXYZ 1 6 r.code] (.ldIndHLR r) s 1 7 (past s 1) (stores s.hl (s.reg r)) ∧
    Runs [0xDD, opXYZ 1 6 r.code, d] (.ldIndIXdR d r) s 2 19 (past s 3) (stores (s.ix + d.signExtend 16) (s.reg r)) ∧
    Runs [0xFD, opXYZ 1 6 r.code, d] (.ldIndIYdR d r) s 2 19 (past s 3) (stores (s.iy + d.signExtend 16) (s.reg r)) ∧
    Runs [0x36, n] (.ldIndHLN n) s 1 10 (past s 2) (stores s.hl n) ∧
    Runs [0xDD, 0x36, d, n] (.ldIndIXdN d n) s 2 19 (past s 4) (stores (s.ix + d.signExtend 16) n) ∧
    Runs [0xFD, 0x36, d, n] (.ldIndIYdN d n) s 2 19 (past s 4) (stores (s.iy + d.signExtend 16) n) ∧
    Runs [0x02] .ldIndBCA s 1 7 (past s 1) (stores s.bc s.a) ∧
    Runs [0x12] .ldIndDEA s 1 7 (past s 1) (stores s.de s.a) ∧
    Runs [0x32, loByte nn, hiByte nn] (.ldIndNnA nn) s 1 13 (past s 3) (stores nn s.a)

/-- 40_load8 R238 to R241: the loads between A and I or R. R is read after the two opcode fetches and written after them. -/
def Obligations.InterruptRefreshLoads : Prop :=
  ∀ s : State,
    let r : Byte := s.rHi ++ (s.rLo + 2)
    Runs [0xED, 0x57] .ldAI s 2 9 { past s 2 with a := s.i, f := flagsOf s.i false s.iff2 false (s.f.getLsbD 0) } same ∧
    Runs [0xED, 0x5F] .ldAR s 2 9 { past s 2 with a := r, f := flagsOf r false s.iff2 false (s.f.getLsbD 0) } same ∧
    Takes [0xED, 0x47] .ldIA s { s with i := s.a } 2 9 (past s 2) same ∧
    decode [0xED, 0x4F] = .ok (.ldRA, []) ∧
    ∃ t, exec .ldRA s = .next t ∧ cpu t = past s 2 ∧ t.t = s.t + 9 ∧ t.rHi ++ t.rLo = s.a ∧ same s t ∧
      Elsewhere { s with rHi := t.rHi } t

/-! ### 16-bit loads and the stack -/

/-- 41_load16_stack R261 to R267, R272 to R274: a 16-bit load into a pair, an index register or SP. -/
def Obligations.WordLoads : Prop :=
  ∀ (s : State) (dd : PairSP) (nn : Word),
    Runs [opXPQZ 0 dd.code 0 1, loByte nn, hiByte nn] (.ldDdNn dd nn) s 1 10 ((past s 3).putSP dd nn) same ∧
    Runs [0xDD, 0x21, loByte nn, hiByte nn] (.ldIXNn nn) s 2 14 { past s 4 with ix := nn } same ∧
    Runs [0xFD, 0x21, loByte nn, hiByte nn] (.ldIYNn nn) s 2 14 { past s 4 with iy := nn } same ∧
    Runs [0x2A, loByte nn, hiByte nn] (.ldHLIndNn nn) s 1 16 ((past s 3).putHL (wordAt s nn)) same ∧
    Runs [0xED, opXPQZ 1 dd.code 1 3, loByte nn, hiByte nn] (.ldDdIndNn dd nn) s 2 20 ((past s 4).putSP dd (wordAt s nn)) same ∧
    Runs [0xDD, 0x2A, loByte nn, hiByte nn] (.ldIXIndNn nn) s 2 20 { past s 4 with ix := wordAt s nn } same ∧
    Runs [0xFD, 0x2A, loByte nn, hiByte nn] (.ldIYIndNn nn) s 2 20 { past s 4 with iy := wordAt s nn } same ∧
    Runs [0xF9] .ldSPHL s 1 6 { past s 1 with sp := s.hl } same ∧
    Runs [0xDD, 0xF9] .ldSPIX s 2 10 { past s 2 with sp := s.ix } same ∧
    Runs [0xFD, 0xF9] .ldSPIY s 2 10 { past s 2 with sp := s.iy } same

/-- 41_load16_stack R268 to R271, R275 to R277: a word is stored low byte first; PUSH stores it below SP and moves SP down by 2. -/
def Obligations.WordStoresAndPush : Prop :=
  ∀ (s : State) (dd : PairSP) (qq : PairAF) (nn : Word),
    Runs [0x22, loByte nn, hiByte nn] (.ldIndNnHL nn) s 1 16 (past s 3) (storesWord nn s.hl) ∧
    Runs [0xED, opXPQZ 1 dd.code 0 3, loByte nn, hiByte nn] (.ldIndNnDd nn dd) s 2 20 (past s 4) (storesWord nn (s.pairSP dd)) ∧
    Runs [0xDD, 0x22, loByte nn, hiByte nn] (.ldIndNnIX nn) s 2 20 (past s 4) (storesWord nn s.ix) ∧
    Runs [0xFD, 0x22, loByte nn, hiByte nn] (.ldIndNnIY nn) s 2 20 (past s 4) (storesWord nn s.iy) ∧
    Runs [opXPQZ 3 qq.code 0 5] (.pushQq qq) s 1 11 { past s 1 with sp := s.sp - 2 } (storesWord (s.sp - 2) (s.pairAF qq)) ∧
    Runs [0xDD, 0xE5] .pushIX s 2 15 { past s 2 with sp := s.sp - 2 } (storesWord (s.sp - 2) s.ix) ∧
    Runs [0xFD, 0xE5] .pushIY s 2 15 { past s 2 with sp := s.sp - 2 } (storesWord (s.sp - 2) s.iy)

/-- 41_load16_stack R278 to R280: POP loads the word at SP and moves SP up by 2; POP AF loads all of F. -/
def Obligations.PopWords : Prop :=
  ∀ (s : State) (qq : PairAF),
    Runs [opXPQZ 3 qq.code 0 1] (.popQq qq) s 1 10 ({ past s 1 with sp := s.sp + 2 }.putQq qq (wordAt s s.sp)) same ∧
    Runs [0xDD, 0xE1] .popIX s 2 14 { past s 2 with ix := wordAt s s.sp, sp := s.sp + 2 } same ∧
    Runs [0xFD, 0xE1] .popIY s 2 14 { past s 2 with iy := wordAt s s.sp, sp := s.sp + 2 } same

/-! ### Exchanges and blocks -/

/-- 42_exchange_block R301 to R306: the exchanges. -/
def Obligations.Exchanges : Prop :=
  ∀ s : State,
    Takes [0x08] .exAFAF s { s with aAlt := s.a, fAlt := s.f } 1 4 { past s 1 with a := s.aAlt, f := s.fAlt } same ∧
    Takes [0xD9] .exx s { s with bAlt := s.b, cAlt := s.c, dAlt := s.d, eAlt := s.e, hAlt := s.h, lAlt := s.l } 1 4
      { past s 1 with b := s.bAlt, c := s.cAlt, d := s.dAlt, e := s.eAlt, h := s.hAlt, l := s.lAlt } same ∧
    Runs [0xEB] .exDEHL s 1 4 { past s 1 with d := s.h, e := s.l, h := s.d, l := s.e } same ∧
    Runs [0xE3] .exIndSPHL s 1 19 ((past s 1).putHL (wordAt s s.sp)) (storesWord s.sp s.hl) ∧
    Runs [0xDD, 0xE3] .exIndSPIX s 2 23 { past s 2 with ix := wordAt s s.sp } (storesWord s.sp s.ix) ∧
    Runs [0xFD, 0xE3] .exIndSPIY s 2 23 { past s 2 with iy := wordAt s s.sp } (storesWord s.sp s.iy)

/-- 42_exchange_block R307 to R310: one iteration of the block moves. -/
def Obligations.BlockMoves : Prop :=
  ∀ s : State,
    let v := s.memRead s.hl
    let more (bc : Word) := decide (bc ≠ 0)
    let n := if s.bc = 1 then 16 else 21
    Runs [0xED, 0xA0] .ldi s 2 16 (moved s 1 (fun _ => false)) (stores s.de v) ∧
    Runs [0xED, 0xB0] .ldir s 2 n (moved s 1 more) (stores s.de v) ∧
    Runs [0xED, 0xA8] .ldd s 2 16 (moved s (-1) (fun _ => false)) (stores s.de v) ∧
    Runs [0xED, 0xB8] .lddr s 2 n (moved s (-1) more) (stores s.de v)

/-- 42_exchange_block R311 to R314: one iteration of the block compares. -/
def Obligations.BlockCompares : Prop :=
  ∀ s : State,
    let more (bc : Word) (r : Byte) := decide (bc ≠ 0 ∧ r ≠ 0)
    let n := if s.bc = 1 ∨ s.a = s.memRead s.hl then 16 else 21
    Runs [0xED, 0xA1] .cpi s 2 16 (compared s 1 (fun _ _ => false)) same ∧
    Runs [0xED, 0xB1] .cpir s 2 n (compared s 1 more) same ∧
    Runs [0xED, 0xA9] .cpd s 2 16 (compared s (-1) (fun _ _ => false)) same ∧
    Runs [0xED, 0xB9] .cpdr s 2 n (compared s (-1) more) same

/-! ### 8-bit arithmetic and logic -/

/-- 43_alu8 R331, R336 to R345: ADD and ADC, every form. -/
def Obligations.AddAndAdc : Prop :=
  OnOperand 0 .addAR .addAN .addAIndHL .addAIndIXd .addAIndIYd (fun c v => c.plus v 0) ∧
  OnOperand 1 .adcAR .adcAN .adcAIndHL .adcAIndIXd .adcAIndIYd (fun c v => c.plus v c.carry)

/-- 43_alu8 R332, R346 to R355: SUB and SBC, every form. -/
def Obligations.SubAndSbc : Prop :=
  OnOperand 2 .subR .subN .subIndHL .subIndIXd .subIndIYd (fun c v => c.minus v 0) ∧
  OnOperand 3 .sbcAR .sbcAN .sbcAIndHL .sbcAIndIXd .sbcAIndIYd (fun c v => c.minus v c.carry)

/-- 43_alu8 R356 to R360, R371 to R375: AND and CP, every form. -/
def Obligations.AndAndCompare : Prop :=
  OnOperand 4 .andR .andN .andIndHL .andIndIXd .andIndIYd (fun c v => c.logic (c.a &&& v) true) ∧
  OnOperand 7 .cpR .cpN .cpIndHL .cpIndIXd .cpIndIYd Cpu.compare

/-- 43_alu8 R361 to R370: OR and XOR, every form. -/
def Obligations.OrAndXor : Prop :=
  OnOperand 5 .xorR .xorN .xorIndHL .xorIndIXd .xorIndIYd (fun c v => c.logic (c.a ^^^ v) false) ∧
  OnOperand 6 .orR .orN .orIndHL .orIndIXd .orIndIYd (fun c v => c.logic (c.a ||| v) false)

/-- 50_undocumented R577: the eight operations on the halves of the index registers. -/
def Obligations.HalfIndexArithmetic : Prop :=
  OnHalf 0 .addAIXH .addAIXL .addAIYH .addAIYL (fun c v => c.plus v 0) ∧
  OnHalf 1 .adcAIXH .adcAIXL .adcAIYH .adcAIYL (fun c v => c.plus v c.carry) ∧
  OnHalf 2 .subIXH .subIXL .subIYH .subIYL (fun c v => c.minus v 0) ∧
  OnHalf 3 .sbcAIXH .sbcAIXL .sbcAIYH .sbcAIYL (fun c v => c.minus v c.carry) ∧
  OnHalf 4 .andIXH .andIXL .andIYH .andIYL (fun c v => c.logic (c.a &&& v) true) ∧
  OnHalf 5 .xorIXH .xorIXL .xorIYH .xorIYL (fun c v => c.logic (c.a ^^^ v) false) ∧
  OnHalf 6 .orIXH .orIXL .orIYH .orIYL (fun c v => c.logic (c.a ||| v) false) ∧
  OnHalf 7 .cpIXH .cpIXL .cpIYH .cpIYL Cpu.compare

/-- 43_alu8 R334, R376 to R383: INC and DEC of a register or a memory byte; CF is kept. -/
def Obligations.IncAndDec : Prop :=
  ∀ (s : State) (r : Reg8) (d : Byte),
    let m := s.memRead s.hl
    let ax := s.ix + d.signExtend 16
    let ay := s.iy + d.signExtend 16
    Runs [opXYZ 0 r.code 4] (.incR r) s 1 4 (((past s 1).incFlags (s.reg r)).put r (inc (s.reg r))) same ∧
    Runs [0x34] .incIndHL s 1 11 ((past s 1).incFlags m) (stores s.hl (inc m)) ∧
    Runs [0xDD, 0x34, d] (.incIndIXd d) s 2 23 ((past s 3).incFlags (s.memRead ax)) (stores ax (inc (s.memRead ax))) ∧
    Runs [0xFD, 0x34, d] (.incIndIYd d) s 2 23 ((past s 3).incFlags (s.memRead ay)) (stores ay (inc (s.memRead ay))) ∧
    Runs [opXYZ 0 r.code 5] (.decR r) s 1 4 (((past s 1).decFlags (s.reg r)).put r (dec (s.reg r))) same ∧
    Runs [0x35] .decIndHL s 1 11 ((past s 1).decFlags m) (stores s.hl (dec m)) ∧
    Runs [0xDD, 0x35, d] (.decIndIXd d) s 2 23 ((past s 3).decFlags (s.memRead ax)) (stores ax (dec (s.memRead ax))) ∧
    Runs [0xFD, 0x35, d] (.decIndIYd d) s 2 23 ((past s 3).decFlags (s.memRead ay)) (stores ay (dec (s.memRead ay)))

/-- 50_undocumented R573 to R576: loads, INC and DEC of the halves of the index registers; the other half is kept. -/
def Obligations.HalfIndexLoads : Prop :=
  ∀ (s : State) (dst src : RegXY) (n : Byte),
    ((dst.half || src.half) = true →
      Runs [0xDD, opXYZ 1 dst.code src.code] (.ldPPIX dst src) s 2 8 ((past s 2).putIX dst (getIX s src)) same ∧
      Runs [0xFD, opXYZ 1 dst.code src.code] (.ldPPIY dst src) s 2 8 ((past s 2).putIY dst (getIY s src)) same) ∧
    Runs [0xDD, 0x26, n] (.ldIXHN n) s 2 11 ((past s 3).putIX .xh n) same ∧
    Runs [0xDD, 0x2E, n] (.ldIXLN n) s 2 11 ((past s 3).putIX .xl n) same ∧
    Runs [0xFD, 0x26, n] (.ldIYHN n) s 2 11 ((past s 3).putIY .xh n) same ∧
    Runs [0xFD, 0x2E, n] (.ldIYLN n) s 2 11 ((past s 3).putIY .xl n) same ∧
    Runs [0xDD, 0x24] .incIXH s 2 8 (((past s 2).incFlags (hiByte s.ix)).putIX .xh (inc (hiByte s.ix))) same ∧
    Runs [0xDD, 0x2C] .incIXL s 2 8 (((past s 2).incFlags (loByte s.ix)).putIX .xl (inc (loByte s.ix))) same ∧
    Runs [0xFD, 0x24] .incIYH s 2 8 (((past s 2).incFlags (hiByte s.iy)).putIY .xh (inc (hiByte s.iy))) same ∧
    Runs [0xFD, 0x2C] .incIYL s 2 8 (((past s 2).incFlags (loByte s.iy)).putIY .xl (inc (loByte s.iy))) same ∧
    Runs [0xDD, 0x25] .decIXH s 2 8 (((past s 2).decFlags (hiByte s.ix)).putIX .xh (dec (hiByte s.ix))) same ∧
    Runs [0xDD, 0x2D] .decIXL s 2 8 (((past s 2).decFlags (loByte s.ix)).putIX .xl (dec (loByte s.ix))) same ∧
    Runs [0xFD, 0x25] .decIYH s 2 8 (((past s 2).decFlags (hiByte s.iy)).putIY .xh (dec (hiByte s.iy))) same ∧
    Runs [0xFD, 0x2D] .decIYL s 2 8 (((past s 2).decFlags (loByte s.iy)).putIY .xl (dec (loByte s.iy))) same

/-- 44_general_cpu_control R401 to R405, 50_undocumented R586: DAA, CPL, NEG and its mirrors, CCF and SCF. -/
def Obligations.AccumulatorAdjust : Prop :=
  ∀ (s : State) (k : BitVec 3),
    let low := s.f.getLsbD 4 || decide (9 < s.a.toNat % 16)
    let high := s.f.getLsbD 0 || decide (0x99 < s.a.toNat)
    let corr := 6 * low.toNat + 96 * high.toNat
    let nf := s.f.getLsbD 1
    let res := if nf then minus s.a (BitVec.ofNat 8 corr) 0 else BitVec.ofNat 8 (s.a.toNat + corr)
    let hf := if nf then s.f.getLsbD 4 && decide (s.a.toNat % 16 < 6) else decide (9 < s.a.toNat % 16)
    let na : Byte := BitVec.ofNat 8 (255 - s.a.toNat)
    let negated : Cpu := { past s 2 with a := minus 0 s.a 0, f := minusFlags 0 s.a 0 (minus 0 s.a 0) }
    Runs [0x27] .daa s 1 4 { past s 1 with a := res, f := flagsOf res hf (even res) nf high } same ∧
    Runs [0x2F] .cpl s 1 4 { past s 1 with
      a := na
      f := bits (s.f.getLsbD 7) (s.f.getLsbD 6) (na.getLsbD 5) true (na.getLsbD 3) (s.f.getLsbD 2) true (s.f.getLsbD 0) } same ∧
    Runs [0xED, 0x44] .neg s 2 8 negated same ∧
    (k ≠ 0 → Runs [0xED, opXYZ 1 k 4] (.negMirror k) s 2 8 negated same) ∧
    Runs [0x3F] .ccf s 1 4 { past s 1 with
      f := bits (s.f.getLsbD 7) (s.f.getLsbD 6) (s.a.getLsbD 5) (s.f.getLsbD 0) (s.a.getLsbD 3) (s.f.getLsbD 2) false
        (!s.f.getLsbD 0) } same ∧
    Runs [0x37] .scf s 1 4 { past s 1 with
      f := bits (s.f.getLsbD 7) (s.f.getLsbD 6) (s.a.getLsbD 5) false (s.a.getLsbD 3) (s.f.getLsbD 2) false true } same

/-- 44_general_cpu_control R406, R407, R409 to R413, 50_undocumented R588, R589: NOP and the ED no-operations, HALT, DI, EI, and the
interrupt modes. -/
def Obligations.CpuControl : Prop :=
  ∀ (s : State) (k : BitVec 3) (j : BitVec 1) (op : Byte),
    Runs [0x00] .nop s 1 4 (past s 1) same ∧
    Runs [0xED, opXPQZ 1 3 j 7] (.nopEd77 j) s 2 8 (past s 2) same ∧
    (op.toNat < 0x40 ∨ 0x80 ≤ op.toNat ∧ op.toNat < 0xA0 ∨ 0xA0 ≤ op.toNat ∧ op.toNat < 0xC0 ∧ op.getLsbD 2 = true ∨
        0xC0 ≤ op.toNat →
      Runs [0xED, op] (.nopEd op) s 2 8 (past s 2) same) ∧
    Takes [0x76] .halt s { s with halted := true, haltPos := s.t + 4 } 1 4 (past s 1) same ∧
    Takes [0xF3] .di s { s with iff1 := false, iff2 := false } 1 4 (past s 1) same ∧
    Takes [0xFB] .ei s { s with iff1 := true, iff2 := true, eiPos := ((s.t + 4 : Nat) : Int) } 1 4 (past s 1) same ∧
    Takes [0xED, 0x46] .im0 s { s with im := .im0 } 2 8 (past s 2) same ∧
    Takes [0xED, 0x56] .im1 s { s with im := .im1 } 2 8 (past s 2) same ∧
    Takes [0xED, 0x5E] .im2 s { s with im := .im2 } 2 8 (past s 2) same ∧
    (k = 1 ∨ k = 4 ∨ k = 5 ∨ k = 6 ∨ k = 7 →
      Takes [0xED, opXYZ 1 k 6] (.imMirror k) s
        { s with im := if k = 6 then .im1 else if k = 7 then .im2 else .im0 } 2 8 (past s 2) same)

/-! ### 16-bit arithmetic -/

/-- 45_alu16 R421 to R431: ADD, ADC and SBC of pairs, and INC and DEC of pairs, which change no flag. -/
def Obligations.WordArithmetic : Prop :=
  ∀ (s : State) (ss : PairSP) (pp : PairXY),
    let v := s.pairSP ss
    let k := (cpu s).carry
    Runs [opXPQZ 0 ss.code 1 1] (.addHLSs ss) s 1 11 (((past s 1).addFlags s.hl v).putHL (sum16 s.hl v 0)) same ∧
    Runs [0xED, opXPQZ 1 ss.code 1 2] (.adcHLSs ss) s 2 15 (((past s 2).adcFlags s.hl v k).putHL (sum16 s.hl v k)) same ∧
    Runs [0xED, opXPQZ 1 ss.code 0 2] (.sbcHLSs ss) s 2 15 (((past s 2).sbcFlags s.hl v k).putHL (diff16 s.hl v k)) same ∧
    Runs [0xDD, opXPQZ 0 pp.code 1 1] (.addIXPp pp) s 2 15
      { (past s 2).addFlags s.ix (addendIX s pp) with ix := sum16 s.ix (addendIX s pp) 0 } same ∧
    Runs [0xFD, opXPQZ 0 pp.code 1 1] (.addIYRr pp) s 2 15
      { (past s 2).addFlags s.iy (addendIY s pp) with iy := sum16 s.iy (addendIY s pp) 0 } same ∧
    Runs [opXPQZ 0 ss.code 0 3] (.incSs ss) s 1 6 ((past s 1).putSP ss (sum16 (s.pairSP ss) 0 1)) same ∧
    Runs [0xDD, 0x23] .incIX s 2 10 { past s 2 with ix := sum16 s.ix 0 1 } same ∧
    Runs [0xFD, 0x23] .incIY s 2 10 { past s 2 with iy := sum16 s.iy 0 1 } same ∧
    Runs [opXPQZ 0 ss.code 1 3] (.decSs ss) s 1 6 ((past s 1).putSP ss (diff16 (s.pairSP ss) 0 1)) same ∧
    Runs [0xDD, 0x2B] .decIX s 2 10 { past s 2 with ix := diff16 s.ix 0 1 } same ∧
    Runs [0xFD, 0x2B] .decIY s 2 10 { past s 2 with iy := diff16 s.iy 0 1 } same

/-! ### Rotates, shifts and bits -/

/-- 46_rotate_shift R442 to R445, R474, R475: the one-byte rotates of A keep SF, ZF and PF; RLD and RRD move digits between A and (HL)
and keep the high digit of A. -/
def Obligations.AccumulatorRotates : Prop :=
  ∀ s : State,
    let k := (cpu s).carry
    let out (p : Byte × Bool) : Cpu :=
      { past s 1 with
        a := p.1
        f := bits (s.f.getLsbD 7) (s.f.getLsbD 6) (p.1.getLsbD 5) false (p.1.getLsbD 3) (s.f.getLsbD 2) false p.2 }
    let m := (s.memRead s.hl).toNat
    let a := s.a.toNat
    let la : Byte := BitVec.ofNat 8 (a / 16 * 16 + m / 16)
    let ra : Byte := BitVec.ofNat 8 (a / 16 * 16 + m % 16)
    Runs [0x07] .rlca s 1 4 (out (rlc s.a k)) same ∧
    Runs [0x17] .rla s 1 4 (out (rl s.a k)) same ∧
    Runs [0x0F] .rrca s 1 4 (out (rrc s.a k)) same ∧
    Runs [0x1F] .rra s 1 4 (out (rr s.a k)) same ∧
    Runs [0xED, 0x6F] .rld s 2 18 { (past s 2).parityFlags la with a := la } (stores s.hl (BitVec.ofNat 8 (m % 16 * 16 + a % 16))) ∧
    Runs [0xED, 0x67] .rrd s 2 18 { (past s 2).parityFlags ra with a := ra } (stores s.hl (BitVec.ofNat 8 (a % 16 * 16 + m / 16)))

/-- 46_rotate_shift R446 to R453: RLC and RL, every form. -/
def Obligations.RotatesLeft : Prop :=
  OnShift 0 .rlcR .rlcIndHL .rlcIndIXd .rlcIndIYd rlc ∧ OnShift 2 .rlR .rlIndHL .rlIndIXd .rlIndIYd rl

/-- 46_rotate_shift R454 to R461: RRC and RR, every form. -/
def Obligations.RotatesRight : Prop :=
  OnShift 1 .rrcR .rrcIndHL .rrcIndIXd .rrcIndIYd rrc ∧ OnShift 3 .rrR .rrIndHL .rrIndIXd .rrIndIYd rr

/-- 46_rotate_shift R462 to R473: SLA, SRA and SRL, every form. -/
def Obligations.Shifts : Prop :=
  OnShift 4 .slaR .slaIndHL .slaIndIXd .slaIndIYd sla ∧
  OnShift 5 .sraR .sraIndHL .sraIndIXd .sraIndIYd sra ∧
  OnShift 7 .srlR .srlIndHL .srlIndIXd .srlIndIYd srl

/-- 50_undocumented R578 to R581: SLL, and the eight shifts that copy their result into a register. -/
def Obligations.UndocumentedShifts : Prop :=
  OnShift 6 .sllR .sllIndHL .sllIndIXd .sllIndIYd sll ∧
  OnShiftCopy 0 .rlcIndIXdR .rlcIndIYdR rlc ∧
  OnShiftCopy 1 .rrcIndIXdR .rrcIndIYdR rrc ∧
  OnShiftCopy 2 .rlIndIXdR .rlIndIYdR rl ∧
  OnShiftCopy 3 .rrIndIXdR .rrIndIYdR rr ∧
  OnShiftCopy 4 .slaIndIXdR .slaIndIYdR sla ∧
  OnShiftCopy 5 .sraIndIXdR .sraIndIYdR sra ∧
  OnShiftCopy 6 .sllIndIXdR .sllIndIYdR sll ∧
  OnShiftCopy 7 .srlIndIXdR .srlIndIYdR srl

/-- 47_bit R491 to R494, 50_undocumented R583: BIT changes flags only. After `BIT b,(HL)` YF and XF are open. -/
def Obligations.BitTests : Prop :=
  ∀ (s : State) (b : BitVec 3) (r : Reg8) (d : Byte),
    let ax := s.ix + d.signExtend 16
    let ay := s.iy + d.signExtend 16
    let cx := (past s 4).bitFlags b (s.memRead ax) (hiByte ax)
    let cy := (past s 4).bitFlags b (s.memRead ay) (hiByte ay)
    Runs [0xCB, opXYZ 1 b r.code] (.bitBR b r) s 2 8 ((past s 2).bitFlags b (s.reg r) (s.reg r)) same ∧
    (∃ yx, Takes [0xCB, opXYZ 1 b 6] (.bitBIndHL b) s (drew s) 2 12 ((past s 2).bitFlags b (s.memRead s.hl) yx) same) ∧
    Runs [0xDD, 0xCB, d, opXYZ 1 b 6] (.bitBIndIXd b d) s 2 20 cx same ∧
    Runs [0xFD, 0xCB, d, opXYZ 1 b 6] (.bitBIndIYd b d) s 2 20 cy same ∧
    Runs [0xDD, 0xCB, d, opXYZ 1 b r.code] (.bitBIndIXdMirror b d r) s 2 20 cx same ∧
    Runs [0xFD, 0xCB, d, opXYZ 1 b r.code] (.bitBIndIYdMirror b d r) s 2 20 cy same

/-- 47_bit R495 to R502, 50_undocumented R582: SET and RES change one bit and no flag; the undocumented forms copy the result. -/
def Obligations.SetAndResetBits : Prop :=
  OnBit 3 .setBR .setBIndHL .setBIndIXd .setBIndIYd .setBIndIXdR .setBIndIYdR withSet ∧
  OnBit 2 .resBR .resBIndHL .resBIndIXd .resBIndIYd .resBIndIXdR .resBIndIYdR withReset

/-! ### Control transfer -/

/-- 48_control_transfer R511 to R521: jumps change PC, and DJNZ also B, and nothing else. -/
def Obligations.Jumps : Prop :=
  (∀ (s : State) (cc : Cond) (nn : Word) (e : Byte),
    Runs [0xC3, loByte nn, hiByte nn] (.jpNn nn) s 1 10 { past s 3 with pc := nn } same ∧
    Runs [opXYZ 3 cc.code 2, loByte nn, hiByte nn] (.jpCcNn cc nn) s 1 10
      { past s 3 with pc := if holds s.f cc then nn else s.pc + 3 } same ∧
    Runs [0x18, e] (.jrE e) s 1 12 { past s 2 with pc := s.pc + 2 + e.signExtend 16 } same ∧
    Runs [0xE9] .jpIndHL s 1 4 { past s 1 with pc := s.hl } same ∧
    Runs [0xDD, 0xE9] .jpIndIX s 2 8 { past s 2 with pc := s.ix } same ∧
    Runs [0xFD, 0xE9] .jpIndIY s 2 8 { past s 2 with pc := s.iy } same ∧
    Runs [0x10, e] (.djnzE e) s 1 (if s.b = 1 then 8 else 13)
      { past s 2 with b := s.b - 1, pc := if s.b = 1 then s.pc + 2 else s.pc + 2 + e.signExtend 16 } same) ∧
  JumpsOn 0x38 .jrCE (fun f => f.getLsbD 0) ∧
  JumpsOn 0x30 .jrNCE (fun f => !f.getLsbD 0) ∧
  JumpsOn 0x28 .jrZE (fun f => f.getLsbD 6) ∧
  JumpsOn 0x20 .jrNZE (fun f => !f.getLsbD 6)

/-- 48_control_transfer R522 to R528, 50_undocumented R587: calls and restarts push the address after the instruction; returns pop it;
RETI, RETN and the mirrors of RETN also copy IFF2 to IFF1. -/
def Obligations.CallsAndReturns : Prop :=
  ∀ (s : State) (cc : Cond) (nn : Word) (p k : BitVec 3),
    let back : Cpu := { cpu s with sp := s.sp + 2, pc := wordAt s s.sp }
    let u := { s with iff1 := s.iff2 }
    Runs [0xCD, loByte nn, hiByte nn] (.callNn nn) s 1 17 { cpu s with sp := s.sp - 2, pc := nn } (storesWord (s.sp - 2) (s.pc + 3)) ∧
    (if holds s.f cc then
      Runs [opXYZ 3 cc.code 4, loByte nn, hiByte nn] (.callCcNn cc nn) s 1 17 { cpu s with sp := s.sp - 2, pc := nn }
        (storesWord (s.sp - 2) (s.pc + 3)) ∧
      Runs [opXYZ 3 cc.code 0] (.retCc cc) s 1 11 back same
    else
      Runs [opXYZ 3 cc.code 4, loByte nn, hiByte nn] (.callCcNn cc nn) s 1 10 (past s 3) same ∧
      Runs [opXYZ 3 cc.code 0] (.retCc cc) s 1 5 (past s 1) same) ∧
    Runs [0xC9] .ret s 1 10 back same ∧
    Takes [0xED, 0x4D] .reti s u 2 14 back same ∧
    Takes [0xED, 0x45] .retn s u 2 14 back same ∧
    (k ≠ 0 ∧ k ≠ 1 → Takes [0xED, opXYZ 1 k 5] (.retnMirror k) s u 2 14 back same) ∧
    Runs [opXYZ 3 p 7] (.rstP p) s 1 11 { cpu s with sp := s.sp - 2, pc := BitVec.ofNat 16 (8 * p.toNat) }
      (storesWord (s.sp - 2) (s.pc + 1))

/-! ### Input and output -/

/-- 49_io R541, R542, R547, R548, 50_undocumented R584, R585: the port is accessed 7 or 8 T after the start; an input gives its byte to
the register, an output gives the register's byte to the port; besides, only what the port itself changes changes. -/
def Obligations.PortInputAndOutput : Prop :=
  ∀ (s : State) (r : Reg8) (n : Byte),
    let x := (sampled s 2 1 7).portRead (mkWord s.a n)
    let y := (sampled s 2 2 8).portRead s.bc
    let w := (sampled s 2 1 7).portWrite (mkWord s.a n) s.a
    let z (v : Byte) := (sampled s 2 2 8).portWrite s.bc v
    Takes [0xDB, n] (.inAPortN n) s (afterRead s x.2) 1 11 { past s 2 with a := x.1 } same ∧
    Takes [0xED, opXYZ 1 r.code 0] (.inRPortC r) s (afterRead s y.2) 2 12 (((past s 2).parityFlags y.1).put r y.1) same ∧
    Takes [0xED, 0x70] .inPortC s (afterRead s y.2) 2 12 ((past s 2).parityFlags y.1) same ∧
    Takes [0xD3, n] (.outPortNA n) s (afterWrite s w) 1 11 (past s 2) cells ∧
    Takes [0xED, opXYZ 1 r.code 1] (.outPortCR r) s (afterWrite s (z (s.reg r))) 2 12 (past s 2) cells ∧
    Takes [0xED, 0x71] .outPortC0 s (afterWrite s (z 0)) 2 12 (past s 2) cells

/-- 49_io R543 to R546, R549 to R552: one iteration of the block inputs and outputs. SF, YF, HF, XF, PF and CF are open. -/
def Obligations.BlockInputAndOutput : Prop :=
  BlockReads 0xA2 .ini 1 false ∧ BlockReads 0xB2 .inir 1 true ∧ BlockReads 0xAA .ind (-1) false ∧ BlockReads 0xBA .indr (-1) true ∧
  BlockWrites 0xA3 .outi 1 false ∧ BlockWrites 0xB3 .otir 1 true ∧ BlockWrites 0xAB .outd (-1) false ∧
  BlockWrites 0xBB .otdr (-1) true

/-! ### Prefixes -/

/-- 50_undocumented R571, R572: a passed-over prefix costs 4 T and one opcode fetch and the instruction runs as without it, in the same
step; an overridden prefix is a step of its own that moves `ei_pos` to the new time. -/
def Obligations.Prefixes : Prop :=
  ∀ (s : State) (i : Instr) (next : Byte) (rest : List Byte),
    let u := { s with pc := s.pc + 1, rLo := s.rLo + 1, t := s.t + 4 }
    (i.passable = true →
      decode (0xDD :: encode i) = .ok (.ddPass i, []) ∧ decode (0xFD :: encode i) = .ok (.fdPass i, []) ∧
      ∃ t, exec i u = .next t ∧ exec (.ddPass i) s = .next t ∧ exec (.fdPass i) s = .next t) ∧
    (next = 0xDD ∨ next = 0xED ∨ next = 0xFD →
      decode (0xDD :: next :: rest) = .ok (.ddOverride, next :: rest) ∧
      decode (0xFD :: next :: rest) = .ok (.fdOverride, next :: rest)) ∧
    exec .ddOverride s = .next { u with eiPos := (u.t : Int) } ∧
    exec .fdOverride s = .next { u with eiPos := (u.t : Int) }

/-! ### Encoding and decoding -/

/-- 30_encoding R176 to R180: some words of the spec's tables, written out, and the instructions they are. -/
def Obligations.DecodesSpecWords : Prop :=
  decode [0x3E, 0xA5] = .ok (.ldRN .a 0xA5, []) ∧
  decode [0x41] = .ok (.ldRR .b .c, []) ∧
  decode [0x76] = .ok (.halt, []) ∧
  decode [0xC2, 0x00, 0x80] = .ok (.jpCcNn .nz 0x8000, []) ∧
  decode [0xCB, 0x78] = .ok (.bitBR 7 .b, []) ∧
  decode [0xED, 0x52] = .ok (.sbcHLSs .de, []) ∧
  decode [0xED, 0xB0] = .ok (.ldir, []) ∧
  decode [0xDD, 0x46, 0xFE] = .ok (.ldRIndIXd .b 0xFE, []) ∧
  decode [0xDD, 0x7C] = .ok (.ldPPIX .a .xh, []) ∧
  decode [0xDD, 0xEB] = .ok (.ddPass .exDEHL, []) ∧
  decode [0xDD, 0xED, 0xB0] = .ok (.ddOverride, [0xED, 0xB0]) ∧
  decode [0xFD, 0xCB, 0x05, 0x46] = .ok (.bitBIndIYd 0 0x05, [])

/-- 30_encoding R170 to R182: every well-formed instruction is what its bytes decode to, whatever follows; after an overridden prefix
another prefix follows. -/
def Obligations.DecodeInvertsEncode : Prop :=
  ∀ (i : Instr) (rest : List Byte), i.wf = true → i.followedBy rest = true → decode (encode i ++ rest) = .ok (i, rest)

/-- 30_encoding R170 to R182: the bytes an instruction was decoded from are its encoding, so no bit of an instruction is dropped, and
no two byte sequences are read as the same instruction. -/
def Obligations.EncodeInvertsDecode : Prop :=
  ∀ (bs rest : List Byte) (i : Instr), decode bs = .ok (i, rest) → encode i ++ rest = bs ∧ i.wf = true ∧ i.followedBy rest = true

/-- 30_encoding R181, 60_exceptions R830: any four bytes start with an instruction of one to four bytes; and every instruction
completes in every state. -/
def Obligations.EveryByteSequenceRuns : Prop :=
  (∀ (b0 b1 b2 b3 : Byte) (rest : List Byte),
    ∃ (i : Instr) (n : Nat), 1 ≤ n ∧ n ≤ 4 ∧ i.wf = true ∧
      decode (b0 :: b1 :: b2 :: b3 :: rest) = .ok (i, (b0 :: b1 :: b2 :: b3 :: rest).drop n)) ∧
  (∀ (i : Instr) (s : State), i.wf = true → Completes (exec i s))

/-- 00_scope R18, 60_exceptions R860: where no interrupt is accepted and the CPU is not halted, a step runs the instruction whose bytes
stand at PC, read through the map after the DOS-mode update, and then the boundary; with no host request pending the boundary is the
hook and the frame wrap. -/
def Obligations.StepRunsDecoded : Prop :=
  ∀ (s : State) (i : Instr) (rest : List Byte), s.acceptsInt = false → s.halted = false →
    let u := s.dosUpdate
    decode [u.memRead u.pc, u.memRead (u.pc + 1), u.memRead (u.pc + 2), u.memRead (u.pc + 3)] = .ok (i, rest) →
    step s = andThen (exec i u) boundary ∧
    ∀ t, exec i u = .next t → t.Quiet → step s = .next t.hook.wrapFrames

/-! ### Reset and invariants -/

/-- 10_state R79, R110 to R114: every value the spec gives for reset, of the registers, the Clock, paging, the tape and the WD1793;
that no tape is loaded at power-on is the model's choice (log entry 25). Derived: that the launch boundary after reset has nothing to do, so that the run from reset is its steps, is
inferred from 60_exceptions R860 and 70_reset_and_hazards R886 (log entry 9, DEDUCED). -/
def Obligations.ResetLeaves : Prop :=
  let s := State.reset
  (s.pc = 0x0000 ∧ s.i = 0x00 ∧ s.rLo = 0 ∧ s.rHi = 0 ∧ s.im = .im0 ∧ s.iff1 = false ∧ s.iff2 = false ∧ s.halted = false ∧
    s.eiPos = -1 ∧ s.haltPos = 0) ∧
  (s.t = 0 ∧ s.tTotal = 0 ∧ s.frameCounter = 0) ∧
  (s.p7FFD = 0x00 ∧ s.p1FFD = 0x00 ∧ s.dos = false ∧ s.pFE = 0x00 ∧ s.place 0x0000 = .rom 0 ∧
    ({ s with cfg := { s.cfg with model48k := true } } : State).place 0x0000 = .rom 0x4000) ∧
  (s.tape.playPtr = none ∧ s.tape.bit = 0x00 ∧ s.tape.edgeChange = 0 ∧ s.tape.autostartArmed = false ∧ s.tape.image = []) ∧
  (s.wd.state = .reset ∧ s.wd.state2 = .idle ∧ s.wd.cmd = 0x03 ∧ s.wd.track = 0x00 ∧ s.wd.sector = 0x01 ∧ s.wd.data = 0x00 ∧
    s.wd.status = 0x00 ∧ s.wd.system = 0x00 ∧ s.wd.stepIn = true ∧ s.wd.rwptr = 0 ∧ s.wd.rwlen = 0 ∧ s.wd.rqs = 0 ∧
    s.wd.next = 0 ∧ s.wd.endWaitingAm = 0 ∧ s.wd.foundId = none ∧ s.wd.startCrc = 0) ∧
  (∀ d, (s.drives.get d).motor = 0) ∧
  (launch s = .next s ∧ ∀ n, run n s = steps n s)

/-- The state after reset meets every invariant of the model. -/
def Obligations.ResetMeetsInvariants : Prop := State.reset.Inv

/-- 70_reset_and_hazards R880 to R885: the reset request completes; what it sets, what it leaves alone. The registers the spec leaves
unspecified are not mentioned. -/
def Obligations.ResetRequest : Prop :=
  ∀ s : State, ∃ t, s.perform .reset = .next t ∧
    (t.pc = 0x0000 ∧ t.i = 0x00 ∧ t.rLo = 0 ∧ t.rHi = 0 ∧ t.im = .im0 ∧ t.iff1 = false ∧ t.iff2 = false ∧ t.halted = false ∧
      t.eiPos = -1 ∧ t.haltPos = 0) ∧
    (t.t = 0 ∧ t.tTotal = 0 ∧ t.frameCounter = 0 ∧ t.p7FFD = 0x00 ∧ t.p1FFD = 0x00 ∧ t.dos = false ∧ t.pFE = 0x00) ∧
    t.tape = { s.tape with
      playPtr := none
      resumePtr := s.tape.playPtr.getD s.tape.resumePtr
      edgeChange := 0
      bit := 0x00
      autostartArmed := decide (0 < s.tape.image.length) } ∧
    t.wd = State.reset.wd ∧ t.disks = s.disks ∧
    (∀ d, (t.drives.get d).motor = 0 ∧ (t.drives.get d).cyl = (s.drives.get d).cyl) ∧
    t.ram = s.ram ∧ t.rom = s.rom ∧ t.cfg = s.cfg ∧ t.kbd = s.kbd ∧ t.requests = s.requests

/-- A step, and a launch, keep RAM and the ROM pool in canonical form. -/
def Obligations.StepKeepsMemoryForm : Prop :=
  ∀ s t : State, s.MemoryInv → step s = .next t ∨ launch s = .next t → t.MemoryInv

/-- 60_exceptions R860 to R862: a step, and a launch, end inside a frame, `T_total` counts the whole frames in its 64 bits, and `ei_pos` is
not ahead of `t`. 10_state R61: as long as the frames fit the 64 bits, `T_total mod frame_len` is 0; that it wraps
beyond is the model's choice (log entry 8). -/
def Obligations.StepKeepsClock : Prop :=
  ∀ s t : State, 0 < s.cfg.frameLen → s.ClockInv → step s = .next t ∨ launch s = .next t →
    t.ClockInv ∧ (t.frameCounter * t.cfg.frameLen < 2 ^ 64 → t.tTotal.toNat % t.cfg.frameLen = 0)

/-- 10_state R75 to R95: a step, and a launch, keep the tape positions inside the tape, its level at 0x00 or 0xFF, a track for each cylinder and side
of each drive, the heads at most at `MAX_PHYS_CYL`, and the low six bits of `wd.rqs` clear. -/
def Obligations.StepKeepsTapeAndDisks : Prop :=
  ∀ s t : State, s.tape.Inv → s.DiskInv → step s = .next t ∨ launch s = .next t → t.tape.Inv ∧ t.DiskInv

/-- 10_state R66, R116: no step and no launch changes the ROM pool or a parameter. -/
def Obligations.StepKeepsParameters : Prop :=
  ∀ s t : State, step s = .next t ∨ launch s = .next t → t.rom = s.rom ∧ t.cfg = s.cfg

/-- 60_exceptions R830, R860: where no host request is pending, a launch completes with the hook and the frame wrap, and a step completes
where the bus byte of mode 0 is a restart. -/
def Obligations.StepCompletes : Prop :=
  ∀ s : State, s.Quiet →
    launch s = .next s.hook.wrapFrames ∧ ((s.im = .im0 → s.cfg.intBusByte &&& 0xC7 = 0xC7) → Completes (step s))

/-! ### Interrupts and the boundary -/

/-- 60_exceptions R840: when the interrupt is accepted, that a step then enters it, and that it is held off right after EI and after an
overridden prefix. -/
def Obligations.InterruptAcceptance : Prop :=
  ∀ s t : State,
    (s.acceptsInt = true ↔
      s.iff1 = true ∧ s.cfg.intPos ≤ s.t ∧ s.t < s.cfg.intPos + s.cfg.intLen ∧ (s.t : Int) ≠ s.eiPos ∧ s.t + 10 < s.cfg.tpi) ∧
    (s.acceptsInt = true → step s = andThen s.enterInt boundary) ∧
    (exec .ei s = .next t ∨ exec .ddOverride s = .next t ∨ exec .fdOverride s = .next t → t.acceptsInt = false)

/-- 60_exceptions R843 to R847: interrupt entry in the three modes, in mode 0 with a bus byte that is a restart. -/
def Obligations.InterruptEntry : Prop :=
  ∀ s : State,
    let u := { s with halted := false, iff1 := false, iff2 := false }
    let bus := s.cfg.intBusByte
    let c (target : Word) : Cpu := { cpu s with sp := s.sp - 2, pc := target }
    match s.im with
    | .im0 =>
      bus &&& 0xC7 = 0xC7 →
        Yields s.enterInt s u 1 13 (c (BitVec.ofNat 16 (bus &&& 0x38).toNat)) (storesWord (s.sp - 2) s.pc)
    | .im1 => Yields s.enterInt s u 1 13 (c 0x0038) (storesWord (s.sp - 2) s.pc)
    | .im2 =>
      ∃ t, s.enterInt = .next t ∧ cpu t = c (wordAt t (mkWord s.i bus)) ∧ t.rLo = s.rLo + 1 ∧ t.t = s.t + 19 ∧
        storesWord (s.sp - 2) s.pc s t ∧ Elsewhere u t

/-- Log entry 11, the model's own choice: in mode 0 a bus byte that is no restart is refused by name, since 60_exceptions R844 puts it
outside the spec. -/
def Obligations.OtherBusBytesRefused : Prop :=
  ∀ s : State, s.im = .im0 → s.cfg.intBusByte &&& 0xC7 ≠ 0xC7 → s.enterInt = .refused .im0BusByte

/-- 44_general_cpu_control R408: a halted CPU spends 4 T and one opcode fetch in a step and does nothing else before the boundary. -/
def Obligations.HaltedCycle : Prop :=
  ∀ s : State, s.acceptsInt = false → s.halted = true → step s = boundary { s with rLo := s.rLo + 1, t := s.t + 4 }

/-- 60_exceptions R860, R862: a frame wrap moves whole frames from `t` to `T_total`, `ei_pos` moves with `t`, and `now()` stays. That a
sum beyond the 64 bits of `T_total` wraps is the model's choice (log entry 8). -/
def Obligations.FrameWrap : Prop :=
  ∀ s : State, 0 < s.cfg.frameLen →
    let k := s.t / s.cfg.frameLen
    (s.cfg.frameLen ≤ s.t →
      s.crossFrame = { s with
        tTotal := s.tTotal + BitVec.ofNat 64 s.cfg.frameLen
        t := s.t - s.cfg.frameLen
        eiPos := s.eiPos - s.cfg.frameLen
        frameCounter := s.frameCounter + 1 } ∧
      s.crossFrame.now = s.now) ∧
    s.wrapFrames = { s with
      tTotal := s.tTotal + BitVec.ofNat 64 (k * s.cfg.frameLen)
      t := s.t % s.cfg.frameLen
      eiPos := s.eiPos - k * s.cfg.frameLen
      frameCounter := s.frameCounter + k } ∧
    s.wrapFrames.now = s.now

/-! ### Memory, paging and ports -/

/-- 20_memory R130: the DOS-mode update changes `dos` only: on at 0x3Dxx with the 48K ROM selected, off from 0x4000 up; a step that
runs an instruction makes it first and fetches through the map as just updated. -/
def Obligations.DosModeUpdate : Prop :=
  ∀ s : State,
    s.dosUpdate = { s with
      dos :=
        if s.cfg.trdosPresent = true ∧ s.dos = false ∧ s.pc.toNat / 256 = 0x3D ∧ (s.p7FFD.getLsbD 4 = true ∨ s.cfg.model48k = true)
        then true
        else if s.dos = true ∧ 0x4000 ≤ s.pc.toNat then false
        else s.dos } ∧
    (s.acceptsInt = false → s.halted = false → step s = andThen (exec s.dosUpdate.fetchInstr s.dosUpdate) boundary)

/-- 20_memory R124 to R127: the bank map for reads and writes. -/
def Obligations.BankMap : Prop :=
  ∀ (s : State) (addr : Word) (v : Byte),
    let n := addr.toNat
    let sel := if s.dos then 2 else if s.cfg.model48k then 1 else if s.p7FFD.getLsbD 4 then 1 else 0
    let high := s.p7FFD.toNat % 8
    let cell (k : Nat) : Prop :=
      s.memRead addr = cellGet s.ram k ∧
      (∀ j, cellGet (s.memWrite addr v).ram j = if j = k then v else cellGet s.ram j) ∧
      s.memWrite addr v = { s with ram := (s.memWrite addr v).ram }
    if n < 0x4000 then s.memRead addr = cellGet s.rom (sel * 0x4000 + n) ∧ s.memWrite addr v = s
    else if n < 0x8000 then cell (5 * 0x4000 + (n - 0x4000))
    else if n < 0xC000 then cell (2 * 0x4000 + (n - 0x8000))
    else cell (high * 0x4000 + (n - 0xC000))

/-- 20_memory R140 to R144: which port a read or a write reaches, and what port 0xFE and the paging ports do. -/
def Obligations.PortDecode : Prop :=
  ∀ (s : State) (p : Word) (v : Byte),
    let lo := loByte p
    let started :=
      if s.cfg.tapeAutostart = true ∧ s.tape.autostartArmed = true ∧ s.tape.playPtr = none ∧ 0 < s.tape.image.length then
        { s with tape := s.tape.start s.now }
      else s
    let ear := started.tapeBit
    if s.cfg.trdosPresent = true ∧ s.dos = true ∧ (lo = 0x1F ∨ lo = 0x3F ∨ lo = 0x5F ∨ lo = 0x7F ∨ lo = 0xFF) then
      s.portRead p = s.wdProcess.wdReadReg lo ∧ s.portWrite p v = (s.wdProcess.wdWriteReg lo v).wdProcess
    else if lo = 0xFE then
      (s.portRead p).2 = ear.2 ∧
      (s.portRead p).1 = bits true (ear.1.getLsbD 6) true ((s.kbdRows (hiByte p)).getLsbD 4) ((s.kbdRows (hiByte p)).getLsbD 3)
        ((s.kbdRows (hiByte p)).getLsbD 2) ((s.kbdRows (hiByte p)).getLsbD 1) ((s.kbdRows (hiByte p)).getLsbD 0) ∧
      s.portWrite p v = { s with pFE := v }
    else
      s.portRead p = (0xFF, s) ∧
      s.portWrite p v =
        if p = 0x7FFD then if s.cfg.model48k = true ∨ s.p7FFD.getLsbD 5 = true then s else { s with p7FFD := v }
        else if p = 0x1FFD then { s with p1FFD := v }
        else s

/-- 20_memory R143: once bit 5 of the paging latch is set, no instruction changes the latch. -/
def Obligations.PagingLockHolds : Prop :=
  ∀ (i : Instr) (s t : State), exec i s = .next t → s.p7FFD.getLsbD 5 = true → t.p7FFD = s.p7FFD

/-- 20_memory R139 to R148: only the input and output instructions reach the ports, so any other instruction leaves the tape, the disks
and their drives, the controller, and the latches of the ports alone. -/
def Obligations.OnlyIoTouchesDevices : Prop :=
  ∀ (i : Instr) (s t : State), isIo i = false → exec i s = .next t →
    t.tape = s.tape ∧ t.disks = s.disks ∧ t.drives = s.drives ∧ t.wd = s.wd ∧ t.pFE = s.pFE ∧ t.p7FFD = s.p7FFD ∧
    t.p1FFD = s.p1FFD

/-! ### Tape -/

/-- 51_tape R660 to R662: reading the level changes the tape only, leaves a stopped tape alone and catches a playing one up with the
present time, turn by turn: before `edge_change` nothing changes; from it on one turn toggles the level and takes the next pulse, at
which the tape stops if it is at its end, at a marker or at its last element, and which is else added to `edge_change` before the
reading goes on. That a sum beyond the 64 bits of `edge_change` wraps is the model's choice (log entry 8). -/
def Obligations.TapeBitCatchesUp : Prop :=
  ∀ s : State,
    let tp := s.tape
    s.tapeBit.2 = { s with tape := s.tapeBit.2.tape } ∧ s.tapeBit.1 = s.tapeBit.2.tape.bit ∧
    (s.tapeBit.2.tape.playPtr = none ∨ s.now < s.tapeBit.2.tape.edgeChange) ∧
    (tp.playPtr = none → s.tapeBit.2 = s) ∧
    (s.now < tp.edgeChange → s.tapeBit.2 = s) ∧
    ∀ p, tp.playPtr = some p → tp.edgeChange ≤ s.now →
      let pulse := tp.pulseAt p
      let flipped := { tp with bit := tp.bit ^^^ 0xFF }
      (∀ d, tp.pulses[(tp.image.getD p 0).toNat]? = some d → pulse = d) ∧
      if tp.image.length ≤ p then s.tapeBit.2.tape = { flipped with playPtr := none, resumePtr := p }
      else if pulse = 0xFFFFFFFF ∨ p + 1 = tp.image.length then
        s.tapeBit.2.tape = { flipped with playPtr := none, resumePtr := p + 1 }
      else
        let turned := { flipped with playPtr := some (p + 1), edgeChange := tp.edgeChange + pulse.setWidth 64 }
        s.tapeBit = ({ s with tape := turned } : State).tapeBit

/-- 51_tape R650, R670, R672: sixteen pulses as a loader writes a byte are read back as that byte, and nothing but the position moves.
51_tape R650, R652: a TAP file is cut into its blocks, and the Pulse Store of a TAP file is encoded as that very file. -/
def Obligations.TapeByteRoundTrip : Prop :=
  (∀ (tp : Tape) (p : Nat) (v : Byte), tp.playPtr = some p → p + 16 ≤ tp.image.length →
    (∀ k, k < 16 → tp.pulseAt (p + k) = (bytePulses v).getD k 0) →
    tp.decodeByte = (some v, { tp with playPtr := some (p + 16) })) ∧
  (∀ blocks : List (List Byte), (∀ bs ∈ blocks, bs.length < 65536) → tapBlocks (tapFile blocks) = some blocks) ∧
  (∀ (hz : Nat) (describe : List Byte → String) (file : List Byte) (store : PulseStore),
    loadTap hz describe file = some store → store.toTap = file)

/-- The bytes that at most `n` calls of `decode_byte()` return, up to the first failure, and the tape they leave (51_tape R672). -/
def Sys2Proof.Claim.decoded (n : Nat) (tp : Tape) : List Byte × Tape :=
  match n with
  | 0 => ([], tp)
  | k + 1 =>
    match tp.decodeByte with
    | (none, tq) => ([], tq)
    | (some v, tq) => (v :: (decoded k tq).1, (decoded k tq).2)

/-- A list of bytes stored one after the other from `addr` on, the address wrapping (53_hooks_accel R796). -/
def Sys2Proof.Claim.storeBytes (s : State) (addr : Word) (bytes : List Byte) : State :=
  match bytes with
  | [] => s
  | v :: rest => storeBytes (s.memWrite addr v) (addr + 1) rest

/-- 53_hooks_accel R795 to R799: without its condition the tape trap does nothing. With it, after the pilot, the flag byte, as many bytes
as DE says, 65536 for 0, and the checksum byte are decoded. The trap succeeds if none is missing and fails otherwise. Either way the
bytes after the flag and before the checksum are stored from IX on, IX and DE have moved past them and L is the last byte decoded. On
success PC is 0x05DF with carry set, H 0, BC 0xB001 and the next edge due at once; on failure PC is 0x05E2 and the tape is stopped.
Nothing else changes, and no time passes. -/
def Obligations.TapeTrapExits : Prop :=
  ∀ s : State,
    let u := s.tapeTrap
    if s.tape.playPtr ≠ none ∧ s.cfg.tapeTraps = true ∧ s.pc = 0x056B then
      let count := (s.de.toNat + 65535) % 65536 + 1
      let pilot := s.tape.skipPilot
      let got := if pilot.1 then decoded (count + 2) pilot.2 else ([], pilot.2)
      let payload := (got.1.drop 1).take count
      let de := s.de - BitVec.ofNat 16 payload.length
      let loaded : State := { storeBytes s s.ix payload with
        ix := s.ix + BitVec.ofNat 16 payload.length
        d := hiByte de
        e := loByte de
        l := got.1.getLast?.getD s.l }
      s.trapRun.1 = (pilot.1 && decide (got.1.length = count + 2)) ∧ u.t = s.t ∧
      u =
        if pilot.1 = true ∧ got.1.length = count + 2 then
          { loaded with
            pc := 0x05DF
            f := s.f ||| 0x01
            b := 0xB0
            c := 0x01
            h := 0
            tape := { got.2 with edgeChange := s.now } }
        else { loaded with pc := 0x05E2, tape := got.2.stop }
    else u = s

/-- 53_hooks_accel R802 to R807, R814 to R818: the delay loops are skipped in closed form, and the first three disk traps return at once
or end their loop. -/
def Obligations.DelayLoopsAndDiskTraps : Prop :=
  ∀ s : State,
    let m (k : Word) := s.memRead (s.pc + k)
    let trap (pc : Word) (b : Byte) : Prop := s.pc = pc ∧ cellGet s.rom (2 * 0x4000 + pc.toNat) = b
    (if s.tape.playPtr ≠ none ∧ s.cfg.soundEnabled = false then
      if m 0 = 0x3D ∧ m 1 = 0x20 ∧ m 2 = 0xFD then
        s.accelerate = { s with t := s.t + (s.a.toNat + 255) % 256 * 16, a := 1 }
      else if m 0 = 0x10 ∧ m 1 = 0xFE then
        s.accelerate = { s with t := s.t + (s.b.toNat + 255) % 256 * 13, b := 1 }
      else
        m 0 = 0x3D ∧ m 1 = 0xC2 ∧ m 2 = loByte s.pc ∧ m 3 = hiByte s.pc →
          s.accelerate = { s with t := s.t + (s.a.toNat + 255) % 256 * 14, a := 1 }
    else s.accelerate = s) ∧
    (if s.cfg.trdosPresent = true ∧ s.dos = true ∧ s.cfg.trdosTraps = true then
      (trap 0x3DFD 0x3E → s.diskTrap = { s with pc := wordAt s s.sp, sp := s.sp + 2, a := 0, c := 0 }) ∧
      (trap 0x3EA0 0x06 → s.diskTrap = { s with pc := wordAt s s.sp, sp := s.sp + 2, a := 0, b := 0 }) ∧
      (trap 0x3E01 0x0D → s.diskTrap = { s with a := 1, c := 1 })
    else s.diskTrap = s)

/-! ### Disk -/

/-- 52_wd1793 R712 to R718, R730, R732: what the controller's registers return and take, when a command is accepted, and what the system
port does. Derived: the motor's deadline `now() + MOTOR_T` (R691) is a 64-bit time whose sum wraps, the model's choice (log entry 8). -/
def Obligations.DiskRegisters : Prop :=
  ∀ (s : State) (v : Byte),
    let w := s.wd
    let type1 := !w.cmd.getLsbD 7 || decide (w.cmd.toNat / 16 = 0xD)
    let noDrq : Wd := { w with
      rqs := w.rqs &&& 0xBF
      status := if type1 then w.status else w.status &&& 0xFD }
    let asked : Wd := { w with cmd := v, status := w.status ||| 0x01, rqs := 0, next := s.now }
    let spun := s.drives.set s.driveSel { s.curDrive with motor := s.now + BitVec.ofNat 64 (2 * s.cfg.clockHz) }
    s.wdReadReg 0x1F = (w.status, { s with wd := { w with rqs := w.rqs &&& 0x7F } }) ∧
    s.wdReadReg 0x3F = (w.track, s) ∧ s.wdWriteReg 0x3F v = { s with wd := { w with track := v } } ∧
    s.wdReadReg 0x5F = (w.sector, s) ∧ s.wdWriteReg 0x5F v = { s with wd := { w with sector := v } } ∧
    s.wdReadReg 0x7F = (w.data, { s with wd := noDrq }) ∧ s.wdWriteReg 0x7F v = { s with wd := { noDrq with data := v } } ∧
    s.wdReadReg 0xFF = (w.rqs ||| 0x3F, s) ∧
    (s.wdWriteReg 0xFF v =
      if v.getLsbD 2 = false then
        { s with wd := { w with
            system := v
            state := .reset
            cmd := 0x03
            sector := 0x01
            status := 0x00
            rqs := 0
            rwlen := 0 } }
      else if w.system.getLsbD 2 = false then
        { s with wd := { w with system := v, cmd := 0x03, status := 0x01, next := s.now, state := .type1Cmd } }
      else { s with wd := { w with system := v } }) ∧
    s.wdWriteReg 0x1F v =
      if w.state = .reset then s
      else if v.toNat / 16 = 0xD then
        let rqs : Byte := if v.getLsbD 3 then 0x80 else 0
        if w.status.getLsbD 0 then { s with wd := { w with state := .idle, status := w.status &&& 0xFE, rqs := rqs } }
        else { s with wd := { w with cmd := v, status := w.status &&& 0x80, rqs := rqs } }
      else if w.status.getLsbD 0 then s
      else if v.getLsbD 7 then
        if w.status.getLsbD 7 then
          { s with drives := spun, wd := { asked with state := .idle, status := w.status &&& 0xFE, rqs := 0x80 } }
        else { s with drives := spun, wd := { asked with state := .delayBeforeCmd } }
      else { s with drives := spun, wd := { asked with state := .type1Cmd } }

/-- 52_wd1793 R693, R701 to R704: a field followed by its checksum, high byte first, has checksum 0, the check values of the spec hold;
and the one ID field of a sector in the reference layout is found, with a good checksum and its data field. -/
def Obligations.TrackFormat : Prop :=
  (∀ bytes : List Byte, crcAm (bytes ++ [hiByte (crcAm bytes), loByte (crcAm bytes)]) = 0) ∧
  crc16 0xFFFF [0xA1, 0xA1, 0xA1] = 0xCDB4 ∧ crcAm [0xFE, 0x00, 0x00, 0x01, 0x01] = 0xFA0C ∧
  (∀ (c h r n : Byte) (gap3 : Nat) (deleted : Bool) (bytes : List Byte), bytes.length = 128 * 2 ^ (n.toNat % 4) →
    headers (referenceSector c h r n gap3 deleted bytes) =
      [{ am := 14, c := c, h := h, r := r, n := n, idcrcOk := true, hasData := true, deleted := deleted, datapos := 60 }])

end
end

