-- ==== Sys2Proof/Laws/Disk.lean ====
section
/-! SUPPORT. What the disk controller can do to the machine: only the disks, the drives, the controller and the counter of free
values change, and the disk invariant is kept. -/

namespace Sys2Proof.Machine

/-- All that a controller operation can do. -/
structure WdStep (s t : State) : Prop where
  frame : t = { s with disks := t.disks, drives := t.drives, wd := t.wd, draws := t.draws }
  inv : s.DiskInv → t.DiskInv

theorem WdStep.refl (s : State) : WdStep s s := ⟨rfl, id⟩

theorem WdStep.trans {s u t : State} (h : WdStep s u) (k : WdStep u t) : WdStep s t :=
  ⟨by rw [k.frame, h.frame], fun i => k.inv (h.inv i)⟩

theorem Four.get_set {α : Type} (f : Four α) (d d' : BitVec 2) (v : α) :
    (f.set d v).get d' = if d' = d then v else f.get d' := by
  revert d d'; simp only [Four.get, Four.set]; intro d d'
  fin_cases d <;> fin_cases d' <;> rfl

/-- Only the two request bits of `rqs` are used (10_state R95). -/
def Wd.RqOk (w : Wd) : Prop := w.rqs &&& 0x3F = 0

/-- A change of the controller that keeps the unused request bits at 0. -/
theorem WdStep.wd {s : State} {w : Wd} (h : s.wd.RqOk → w.RqOk) : WdStep s { s with wd := w } :=
  ⟨rfl, fun i => ⟨i.1, i.2.1, h i.2.2⟩⟩

theorem WdStep.drawn (s : State) : WdStep s s.drawn := ⟨rfl, id⟩

/-- A change of the selected disk that keeps its geometry. -/
theorem WdStep.disk {s : State} {dk : Disk} (h : (s.disks.get s.driveSel).wf = true → dk.wf = true) :
    WdStep s { s with disks := s.disks.set s.driveSel dk } := by
  refine ⟨rfl, fun i => ⟨fun d => ?_, i.2⟩⟩
  simp only [Four.get_set]
  split
  · exact h (i.1 _)
  · exact i.1 d

/-- A head movement within the bound. -/
theorem WdStep.drive {s : State} {dr : Drive} (h : (s.drives.get s.driveSel).cyl ≤ s.cfg.maxPhysCyl → dr.cyl ≤ s.cfg.maxPhysCyl) :
    WdStep s { s with drives := s.drives.set s.driveSel dr } := by
  refine ⟨rfl, fun i => ⟨i.1, fun d => ?_, i.2.2⟩⟩
  simp only [Four.get_set]
  split
  · exact h (i.2.1 _)
  · exact i.2.1 d

/-! ### Request bits -/

theorem rqs_and {q k : Byte} (h : q &&& 0x3F = 0) : (q &&& k) &&& 0x3F = 0 := by
  rw [BitVec.and_assoc, BitVec.and_comm k, ← BitVec.and_assoc, h]; simp

theorem Wd.finish_ok (w : Wd) : w.finish.RqOk := by
  have : ∀ q : Byte, ((q &&& rqDrq) ||| rqIntrq) &&& 0x3F = 0 := by unfold rqDrq rqIntrq; decide
  exact this w.rqs

theorem Wd.raiseDrq_ok {w : Wd} (h : w.RqOk) : w.raiseDrq.RqOk := by
  have : ∀ q : Byte, q &&& 0x3F = 0 → (q ||| rqDrq) &&& 0x3F = 0 := by unfold rqDrq; decide
  exact this w.rqs h

theorem Wd.takeByte_ok {w : Wd} (h : w.RqOk) : w.takeByte.RqOk := by unfold Wd.takeByte; split <;> exact h

theorem Wd.dropDrq_ok {w : Wd} (h : w.RqOk) : w.dropDrq.RqOk := rqs_and h

/-! ### The track -/

theorem State.trkWrite_step (s : State) (pos : Nat) (b : Byte) (m : Bool) : WdStep s (s.trkWrite pos b m) := by
  unfold State.trkWrite
  split
  · exact .refl s
  · exact .disk (by simp [Disk.wf, State.curDisk])

theorem State.trkWrites_step (s : State) (pos : Nat) (bytes : List (Byte × Bool)) : WdStep s (s.trkWrites pos bytes) := by
  induction bytes generalizing s pos with
  | nil => exact .refl s
  | cons x rest ih => exact (s.trkWrite_step _ _ _).trans (ih _ _)

theorem State.markDisk_step (s : State) (bits : Byte) : WdStep s (s.markDisk bits) :=
  .disk (by simp [Disk.wf, State.curDisk])

@[simp] theorem State.trkWrite_wd (s : State) (pos : Nat) (b : Byte) (m : Bool) : (s.trkWrite pos b m).wd = s.wd := by
  unfold State.trkWrite; split <;> rfl

@[simp] theorem State.trkWrites_wd (s : State) (pos : Nat) (bytes : List (Byte × Bool)) : (s.trkWrites pos bytes).wd = s.wd := by
  induction bytes generalizing s pos with
  | nil => rfl
  | cons x rest ih => simp [State.trkWrites, ih]

/-! ### The states -/

theorem State.wdDelay_step (s : State) : WdStep s s.wdDelay := .wd id

theorem State.findId_step (s : State) : WdStep s s.findId := by
  unfold State.findId
  dsimp only
  split <;> exact .wd id

theorem State.startSearch_step (s : State) : WdStep s s.startSearch :=
  (WdStep.wd (s := s) (w := { s.wd with endWaitingAm := later s.wd.next (s.cfg.seekRetryTurns * s.revT) }) id).trans (State.findId_step _)

theorem State.wdCmdRw_step (s : State) : WdStep s s.wdCmdRw := by
  unfold State.wdCmdRw
  dsimp only
  split
  · exact .wd fun _ => Wd.finish_ok _
  · split
    · exact s.startSearch_step
    · split
      · exact .wd fun h => Wd.raiseDrq_ok h
      · exact .wd id

theorem State.wdFound_step (s : State) : WdStep s s.wdFound := by
  unfold State.wdFound
  split
  · exact .wd fun _ => Wd.finish_ok _
  · dsimp only
    split
    · exact .wd fun _ => Wd.finish_ok _
    · split
      · exact .wd id
      · split
        · exact .wd fun h => Wd.raiseDrq_ok (w := { s.wd with status := _ }) h
        · exact .wd id

theorem State.wdRdsec_step (s : State) : WdStep s s.wdRdsec := by
  unfold State.wdRdsec; split
  · exact .wd fun _ => Wd.finish_ok _
  · exact .wd id

theorem State.wdStage_step (s : State) : WdStep s s.wdStage := by
  have key : ∀ w : Wd, (s.wd.RqOk → w.RqOk) → WdStep s { s with wd := w.raiseDrq.waitThen (w.raiseDrq.next + s.tsByte) .read } :=
    fun w hw => .wd fun h => Wd.raiseDrq_ok (hw h)
  have hw : s.wd.RqOk → (if s.wd.rqs &&& rqDrq = 0 then s.wd else s.wd.setStatus stLost).RqOk := fun h => by
    split <;> exact h
  unfold State.wdStage
  dsimp only
  split
  · exact key { (if s.wd.rqs &&& rqDrq = 0 then s.wd else s.wd.setStatus stLost) with data := _, rwptr := _, rwlen := _ } hw
  · refine WdStep.trans ?_ (WdStep.drawn _)
    exact key { (if s.wd.rqs &&& rqDrq = 0 then s.wd else s.wd.setStatus stLost) with data := _, rwptr := _, rwlen := _ } hw

theorem State.wdReadEnd_step (s : State) : WdStep s s.wdReadEnd := by
  have next (w : Wd) (k : Bool) (h : s.wd.RqOk → w.RqOk) :
      WdStep s { s with wd := if k then { w with sector := w.sector + 1, state := .cmdRw } else w.finish } :=
    .wd fun g => by split <;> [exact h g; exact Wd.finish_ok _]
  have err (k : Bool) : s.wd.RqOk → (if k then s.wd else s.wd.setStatus stCrcErr).RqOk := fun h => by
    split <;> exact h
  unfold State.wdReadEnd
  dsimp only
  split
  · cases s.wd.foundId with
    | none => exact next s.wd _ id
    | some x =>
      dsimp only
      split
      · exact next _ _ (err _)
      · refine WdStep.trans ?_ (WdStep.drawn _)
        exact next _ _ (err _)
  · split
    · split <;> exact .wd fun _ => Wd.finish_ok _
    · exact .wd fun _ => Wd.finish_ok _

theorem State.wdRead_step (s : State) : WdStep s s.wdRead := by
  unfold State.wdRead; split
  · exact s.wdStage_step
  · exact s.wdReadEnd_step

theorem State.wdWrsec_step (s : State) : WdStep s s.wdWrsec := by
  unfold State.wdWrsec
  split
  · exact .wd fun _ => Wd.finish_ok _
  · split
    · exact .wd fun _ => Wd.finish_ok _
    · refine (s.markDisk_step _).trans ((State.trkWrites_step _ _ _).trans (.wd fun h => ?_))
      simpa only [Wd.RqOk] using h

theorem State.wdWrite_step (s : State) : WdStep s s.wdWrite := by
  unfold State.wdWrite
  dsimp only
  have h1 := s.trkWrite_step s.wd.takeByte.rwptr s.wd.takeByte.data false
  split
  · exact h1.trans (.wd fun h =>
      Wd.raiseDrq_ok (w := { s.wd.takeByte with rwptr := _, rwlen := _ }) (Wd.takeByte_ok (by simpa using h)))
  · split
    · exact h1.trans ((State.trkWrites_step _ _ _).trans (.wd fun h => Wd.takeByte_ok (by simpa using h)))
    · exact h1.trans ((State.trkWrites_step _ _ _).trans (.wd fun _ => Wd.finish_ok _))

theorem State.wdWrtrack_step (s : State) : WdStep s s.wdWrtrack := by
  unfold State.wdWrtrack
  dsimp only
  split
  · exact .wd fun _ => Wd.finish_ok _
  · split
    · exact .wd fun _ => Wd.finish_ok _
    · exact (s.markDisk_step _).trans (.wd fun h => h)

theorem State.wdWrTrackData_step (s : State) : WdStep s s.wdWrTrackData := by
  unfold State.wdWrTrackData
  dsimp only
  have h1 := s.trkWrites_step s.wd.takeByte.rwptr (s.formatBytes s.wd.takeByte)
  split
  · exact h1.trans (.wd fun h =>
      Wd.raiseDrq_ok (w := { s.wd.takeByte with startCrc := _, rwptr := _, rwlen := _ }) (Wd.takeByte_ok (by simpa using h)))
  · exact h1.trans (.wd fun _ => Wd.finish_ok _)

theorem State.wdType1_step (s : State) : WdStep s s.wdType1 := by
  have h0 : Wd.RqOk { s.wd with rqs := 0 } := by simp [Wd.RqOk]
  unfold State.wdType1; dsimp only; split <;> exact .wd fun _ => h0

theorem State.wdSeekStart_step (s : State) : WdStep s s.wdSeekStart := by
  unfold State.wdSeekStart; dsimp only; split <;> exact .wd id

theorem State.wdSeek_step (s : State) : WdStep s s.wdSeek := by
  unfold State.wdSeek; dsimp only; split <;> exact .wd id

theorem State.wdStep_step (s : State) : WdStep s s.wdStep := by
  unfold State.wdStep
  dsimp only
  split
  · exact .wd id
  · refine (WdStep.drive (s := s) (dr := { s.curDrive with cyl := min s.cfg.maxPhysCyl _ }) ?_).trans (.wd ?_)
    · intro _; exact Nat.min_le_left _ _
    · intro h; split <;> exact h

theorem State.wdVerify_step (s : State) : WdStep s s.wdVerify := by
  unfold State.wdVerify; split
  · exact s.startSearch_step
  · exact .wd fun _ => Wd.finish_ok _

/-- One turn of the controller's loop. -/
theorem State.wdTurn_step {s t : State} {time : Time} (h : s.wdTurn time = some t) : WdStep s t := by
  unfold State.wdTurn at h
  split at h
  case h_3 =>
    split at h
    · cases h
    · obtain rfl := Option.some.inj h; exact .wd id
  all_goals first | (cases h; done) | obtain rfl := Option.some.inj h
  all_goals
    first
    | exact s.wdDelay_step | exact s.wdCmdRw_step | exact s.wdFound_step | exact s.wdRdsec_step | exact s.wdRead_step
    | exact s.wdWrsec_step | exact s.wdWrite_step | exact s.wdWrtrack_step | exact s.wdWrTrackData_step | exact s.wdType1_step
    | exact s.wdStep_step | exact s.wdSeekStart_step | exact s.wdSeek_step | exact s.wdVerify_step

theorem State.wdLoop_step (fuel : Nat) (time : Time) (s : State) : WdStep s (State.wdLoop fuel time s) := by
  induction fuel generalizing s with
  | zero => exact .refl s
  | succ n ih =>
    unfold State.wdLoop
    split
    · exact .refl s
    · exact (State.wdTurn_step ‹_›).trans (ih _)

/-- Bringing the controller up to date. -/
theorem State.wdProcess_step (s : State) : WdStep s s.wdProcess := by
  unfold State.wdProcess
  split
  · exact .refl s
  · dsimp only
    have h1 : WdStep s (State.wdLoop wdFuel s.now
        { s with wd := { s.wd with status := withBit s.wd.status stNotReady (!s.curDisk.present) } }) :=
      (WdStep.wd (s := s) (w := { s.wd with status := withBit s.wd.status stNotReady (!s.curDisk.present) }) id).trans
        (State.wdLoop_step _ _ _)
    split
    · exact h1.trans (.wd id)
    · exact h1

/-! ### Registers -/

theorem State.wdForceInt_step (s : State) (v : Byte) : WdStep s (s.wdForceInt v) := by
  have h0 : ∀ w : Wd, Wd.RqOk { w with rqs := if v.getLsbD 3 then rqIntrq else 0 } := fun w => by
    unfold Wd.RqOk; dsimp only; split <;> decide
  unfold State.wdForceInt
  dsimp only
  exact .wd fun _ => h0 _

theorem State.wdAccept_step (s : State) (v : Byte) : WdStep s (s.wdAccept v) := by
  have h0 : ∀ w : Wd, Wd.RqOk { w with rqs := 0 } := fun w => by simp [Wd.RqOk]
  unfold State.wdAccept
  dsimp only
  refine (WdStep.drive (s := s) (dr := { s.curDrive with motor := later s.now s.motorT }) id).trans (.wd fun _ => ?_)
  split
  · split
    · exact Wd.finish_ok _
    · exact h0 s.wd
  · exact h0 s.wd

theorem State.wdCommand_step (s : State) (v : Byte) : WdStep s (s.wdCommand v) := by
  unfold State.wdCommand
  split
  · exact .refl s
  · split
    · exact s.wdForceInt_step v
    · split
      · exact .refl s
      · exact s.wdAccept_step v

theorem State.wdSystem_step (s : State) (v : Byte) : WdStep s (s.wdSystem v) := by
  have h0 : ∀ w : Wd, Wd.RqOk { w with rqs := 0 } := fun w => by simp [Wd.RqOk]
  unfold State.wdSystem
  dsimp only
  split
  · exact .wd fun _ => h0 s.wd
  · split <;> exact .wd id

/-- Reading a controller port. -/
theorem State.wdReadReg_step (s : State) (lo : Byte) : WdStep s (s.wdReadReg lo).2 := by
  unfold State.wdReadReg
  split
  · exact .wd fun h => rqs_and h
  · split
    · exact .refl s
    · split
      · exact .refl s
      · split
        · exact .wd fun h => Wd.dropDrq_ok h
        · exact .refl s

/-- Writing a controller port. -/
theorem State.wdWriteReg_step (s : State) (lo v : Byte) : WdStep s (s.wdWriteReg lo v) := by
  unfold State.wdWriteReg
  split
  · exact s.wdCommand_step v
  · split
    · exact .wd id
    · split
      · exact .wd id
      · split
        · exact .wd fun h => Wd.dropDrq_ok (w := { s.wd with data := v }) h
        · exact s.wdSystem_step v

end Sys2Proof.Machine
end

