-- ==== Sys2Proof/Laws/State.lean ====
section
/-! SUPPORT. What each named update leaves in each field of the state: one lemma per field per update. -/

namespace Sys2Proof.Machine

/-! ### `fetched` -/

@[simp] theorem State.fetched_a (s : State) (len : Word) (m1 : BitVec 7) (n : Nat) : (s.fetched len m1 n).a = s.a := rfl
@[simp] theorem State.fetched_f (s : State) (len : Word) (m1 : BitVec 7) (n : Nat) : (s.fetched len m1 n).f = s.f := rfl
@[simp] theorem State.fetched_b (s : State) (len : Word) (m1 : BitVec 7) (n : Nat) : (s.fetched len m1 n).b = s.b := rfl
@[simp] theorem State.fetched_c (s : State) (len : Word) (m1 : BitVec 7) (n : Nat) : (s.fetched len m1 n).c = s.c := rfl
@[simp] theorem State.fetched_d (s : State) (len : Word) (m1 : BitVec 7) (n : Nat) : (s.fetched len m1 n).d = s.d := rfl
@[simp] theorem State.fetched_e (s : State) (len : Word) (m1 : BitVec 7) (n : Nat) : (s.fetched len m1 n).e = s.e := rfl
@[simp] theorem State.fetched_h (s : State) (len : Word) (m1 : BitVec 7) (n : Nat) : (s.fetched len m1 n).h = s.h := rfl
@[simp] theorem State.fetched_l (s : State) (len : Word) (m1 : BitVec 7) (n : Nat) : (s.fetched len m1 n).l = s.l := rfl
@[simp] theorem State.fetched_aAlt (s : State) (len : Word) (m1 : BitVec 7) (n : Nat) : (s.fetched len m1 n).aAlt = s.aAlt := rfl
@[simp] theorem State.fetched_fAlt (s : State) (len : Word) (m1 : BitVec 7) (n : Nat) : (s.fetched len m1 n).fAlt = s.fAlt := rfl
@[simp] theorem State.fetched_bAlt (s : State) (len : Word) (m1 : BitVec 7) (n : Nat) : (s.fetched len m1 n).bAlt = s.bAlt := rfl
@[simp] theorem State.fetched_cAlt (s : State) (len : Word) (m1 : BitVec 7) (n : Nat) : (s.fetched len m1 n).cAlt = s.cAlt := rfl
@[simp] theorem State.fetched_dAlt (s : State) (len : Word) (m1 : BitVec 7) (n : Nat) : (s.fetched len m1 n).dAlt = s.dAlt := rfl
@[simp] theorem State.fetched_eAlt (s : State) (len : Word) (m1 : BitVec 7) (n : Nat) : (s.fetched len m1 n).eAlt = s.eAlt := rfl
@[simp] theorem State.fetched_hAlt (s : State) (len : Word) (m1 : BitVec 7) (n : Nat) : (s.fetched len m1 n).hAlt = s.hAlt := rfl
@[simp] theorem State.fetched_lAlt (s : State) (len : Word) (m1 : BitVec 7) (n : Nat) : (s.fetched len m1 n).lAlt = s.lAlt := rfl
@[simp] theorem State.fetched_ix (s : State) (len : Word) (m1 : BitVec 7) (n : Nat) : (s.fetched len m1 n).ix = s.ix := rfl
@[simp] theorem State.fetched_iy (s : State) (len : Word) (m1 : BitVec 7) (n : Nat) : (s.fetched len m1 n).iy = s.iy := rfl
@[simp] theorem State.fetched_sp (s : State) (len : Word) (m1 : BitVec 7) (n : Nat) : (s.fetched len m1 n).sp = s.sp := rfl
@[simp] theorem State.fetched_pc (s : State) (len : Word) (m1 : BitVec 7) (n : Nat) : (s.fetched len m1 n).pc = s.pc + len := rfl
@[simp] theorem State.fetched_i (s : State) (len : Word) (m1 : BitVec 7) (n : Nat) : (s.fetched len m1 n).i = s.i := rfl
@[simp] theorem State.fetched_rLo (s : State) (len : Word) (m1 : BitVec 7) (n : Nat) : (s.fetched len m1 n).rLo = s.rLo + m1 := rfl
@[simp] theorem State.fetched_rHi (s : State) (len : Word) (m1 : BitVec 7) (n : Nat) : (s.fetched len m1 n).rHi = s.rHi := rfl
@[simp] theorem State.fetched_im (s : State) (len : Word) (m1 : BitVec 7) (n : Nat) : (s.fetched len m1 n).im = s.im := rfl
@[simp] theorem State.fetched_iff1 (s : State) (len : Word) (m1 : BitVec 7) (n : Nat) : (s.fetched len m1 n).iff1 = s.iff1 := rfl
@[simp] theorem State.fetched_iff2 (s : State) (len : Word) (m1 : BitVec 7) (n : Nat) : (s.fetched len m1 n).iff2 = s.iff2 := rfl
@[simp] theorem State.fetched_eiPos (s : State) (len : Word) (m1 : BitVec 7) (n : Nat) : (s.fetched len m1 n).eiPos = s.eiPos := rfl
@[simp] theorem State.fetched_haltPos (s : State) (len : Word) (m1 : BitVec 7) (n : Nat) : (s.fetched len m1 n).haltPos = s.haltPos := rfl
@[simp] theorem State.fetched_halted (s : State) (len : Word) (m1 : BitVec 7) (n : Nat) : (s.fetched len m1 n).halted = s.halted := rfl
@[simp] theorem State.fetched_t (s : State) (len : Word) (m1 : BitVec 7) (n : Nat) : (s.fetched len m1 n).t = s.t + n := rfl
@[simp] theorem State.fetched_tTotal (s : State) (len : Word) (m1 : BitVec 7) (n : Nat) : (s.fetched len m1 n).tTotal = s.tTotal := rfl
@[simp] theorem State.fetched_frameCounter (s : State) (len : Word) (m1 : BitVec 7) (n : Nat) : (s.fetched len m1 n).frameCounter = s.frameCounter := rfl
@[simp] theorem State.fetched_ram (s : State) (len : Word) (m1 : BitVec 7) (n : Nat) : (s.fetched len m1 n).ram = s.ram := rfl
@[simp] theorem State.fetched_rom (s : State) (len : Word) (m1 : BitVec 7) (n : Nat) : (s.fetched len m1 n).rom = s.rom := rfl
@[simp] theorem State.fetched_p7FFD (s : State) (len : Word) (m1 : BitVec 7) (n : Nat) : (s.fetched len m1 n).p7FFD = s.p7FFD := rfl
@[simp] theorem State.fetched_p1FFD (s : State) (len : Word) (m1 : BitVec 7) (n : Nat) : (s.fetched len m1 n).p1FFD = s.p1FFD := rfl
@[simp] theorem State.fetched_dos (s : State) (len : Word) (m1 : BitVec 7) (n : Nat) : (s.fetched len m1 n).dos = s.dos := rfl
@[simp] theorem State.fetched_pFE (s : State) (len : Word) (m1 : BitVec 7) (n : Nat) : (s.fetched len m1 n).pFE = s.pFE := rfl
@[simp] theorem State.fetched_tape (s : State) (len : Word) (m1 : BitVec 7) (n : Nat) : (s.fetched len m1 n).tape = s.tape := rfl
@[simp] theorem State.fetched_disks (s : State) (len : Word) (m1 : BitVec 7) (n : Nat) : (s.fetched len m1 n).disks = s.disks := rfl
@[simp] theorem State.fetched_drives (s : State) (len : Word) (m1 : BitVec 7) (n : Nat) : (s.fetched len m1 n).drives = s.drives := rfl
@[simp] theorem State.fetched_wd (s : State) (len : Word) (m1 : BitVec 7) (n : Nat) : (s.fetched len m1 n).wd = s.wd := rfl
@[simp] theorem State.fetched_kbd (s : State) (len : Word) (m1 : BitVec 7) (n : Nat) : (s.fetched len m1 n).kbd = s.kbd := rfl
@[simp] theorem State.fetched_requests (s : State) (len : Word) (m1 : BitVec 7) (n : Nat) : (s.fetched len m1 n).requests = s.requests := rfl
@[simp] theorem State.fetched_cfg (s : State) (len : Word) (m1 : BitVec 7) (n : Nat) : (s.fetched len m1 n).cfg = s.cfg := rfl
@[simp] theorem State.fetched_draws (s : State) (len : Word) (m1 : BitVec 7) (n : Nat) : (s.fetched len m1 n).draws = s.draws := rfl

/-! ### `drawn` -/

@[simp] theorem State.drawn_a (s : State) : (s.drawn).a = s.a := rfl
@[simp] theorem State.drawn_f (s : State) : (s.drawn).f = s.f := rfl
@[simp] theorem State.drawn_b (s : State) : (s.drawn).b = s.b := rfl
@[simp] theorem State.drawn_c (s : State) : (s.drawn).c = s.c := rfl
@[simp] theorem State.drawn_d (s : State) : (s.drawn).d = s.d := rfl
@[simp] theorem State.drawn_e (s : State) : (s.drawn).e = s.e := rfl
@[simp] theorem State.drawn_h (s : State) : (s.drawn).h = s.h := rfl
@[simp] theorem State.drawn_l (s : State) : (s.drawn).l = s.l := rfl
@[simp] theorem State.drawn_aAlt (s : State) : (s.drawn).aAlt = s.aAlt := rfl
@[simp] theorem State.drawn_fAlt (s : State) : (s.drawn).fAlt = s.fAlt := rfl
@[simp] theorem State.drawn_bAlt (s : State) : (s.drawn).bAlt = s.bAlt := rfl
@[simp] theorem State.drawn_cAlt (s : State) : (s.drawn).cAlt = s.cAlt := rfl
@[simp] theorem State.drawn_dAlt (s : State) : (s.drawn).dAlt = s.dAlt := rfl
@[simp] theorem State.drawn_eAlt (s : State) : (s.drawn).eAlt = s.eAlt := rfl
@[simp] theorem State.drawn_hAlt (s : State) : (s.drawn).hAlt = s.hAlt := rfl
@[simp] theorem State.drawn_lAlt (s : State) : (s.drawn).lAlt = s.lAlt := rfl
@[simp] theorem State.drawn_ix (s : State) : (s.drawn).ix = s.ix := rfl
@[simp] theorem State.drawn_iy (s : State) : (s.drawn).iy = s.iy := rfl
@[simp] theorem State.drawn_sp (s : State) : (s.drawn).sp = s.sp := rfl
@[simp] theorem State.drawn_pc (s : State) : (s.drawn).pc = s.pc := rfl
@[simp] theorem State.drawn_i (s : State) : (s.drawn).i = s.i := rfl
@[simp] theorem State.drawn_rLo (s : State) : (s.drawn).rLo = s.rLo := rfl
@[simp] theorem State.drawn_rHi (s : State) : (s.drawn).rHi = s.rHi := rfl
@[simp] theorem State.drawn_im (s : State) : (s.drawn).im = s.im := rfl
@[simp] theorem State.drawn_iff1 (s : State) : (s.drawn).iff1 = s.iff1 := rfl
@[simp] theorem State.drawn_iff2 (s : State) : (s.drawn).iff2 = s.iff2 := rfl
@[simp] theorem State.drawn_eiPos (s : State) : (s.drawn).eiPos = s.eiPos := rfl
@[simp] theorem State.drawn_haltPos (s : State) : (s.drawn).haltPos = s.haltPos := rfl
@[simp] theorem State.drawn_halted (s : State) : (s.drawn).halted = s.halted := rfl
@[simp] theorem State.drawn_t (s : State) : (s.drawn).t = s.t := rfl
@[simp] theorem State.drawn_tTotal (s : State) : (s.drawn).tTotal = s.tTotal := rfl
@[simp] theorem State.drawn_frameCounter (s : State) : (s.drawn).frameCounter = s.frameCounter := rfl
@[simp] theorem State.drawn_ram (s : State) : (s.drawn).ram = s.ram := rfl
@[simp] theorem State.drawn_rom (s : State) : (s.drawn).rom = s.rom := rfl
@[simp] theorem State.drawn_p7FFD (s : State) : (s.drawn).p7FFD = s.p7FFD := rfl
@[simp] theorem State.drawn_p1FFD (s : State) : (s.drawn).p1FFD = s.p1FFD := rfl
@[simp] theorem State.drawn_dos (s : State) : (s.drawn).dos = s.dos := rfl
@[simp] theorem State.drawn_pFE (s : State) : (s.drawn).pFE = s.pFE := rfl
@[simp] theorem State.drawn_tape (s : State) : (s.drawn).tape = s.tape := rfl
@[simp] theorem State.drawn_disks (s : State) : (s.drawn).disks = s.disks := rfl
@[simp] theorem State.drawn_drives (s : State) : (s.drawn).drives = s.drives := rfl
@[simp] theorem State.drawn_wd (s : State) : (s.drawn).wd = s.wd := rfl
@[simp] theorem State.drawn_kbd (s : State) : (s.drawn).kbd = s.kbd := rfl
@[simp] theorem State.drawn_requests (s : State) : (s.drawn).requests = s.requests := rfl
@[simp] theorem State.drawn_cfg (s : State) : (s.drawn).cfg = s.cfg := rfl
@[simp] theorem State.drawn_draws (s : State) : (s.drawn).draws = s.draws + 1 := rfl

/-! ### `setAF` -/

@[simp] theorem State.setAF_a (s : State) (v : Word) : (s.setAF v).a = hiByte v := rfl
@[simp] theorem State.setAF_f (s : State) (v : Word) : (s.setAF v).f = loByte v := rfl
@[simp] theorem State.setAF_b (s : State) (v : Word) : (s.setAF v).b = s.b := rfl
@[simp] theorem State.setAF_c (s : State) (v : Word) : (s.setAF v).c = s.c := rfl
@[simp] theorem State.setAF_d (s : State) (v : Word) : (s.setAF v).d = s.d := rfl
@[simp] theorem State.setAF_e (s : State) (v : Word) : (s.setAF v).e = s.e := rfl
@[simp] theorem State.setAF_h (s : State) (v : Word) : (s.setAF v).h = s.h := rfl
@[simp] theorem State.setAF_l (s : State) (v : Word) : (s.setAF v).l = s.l := rfl
@[simp] theorem State.setAF_aAlt (s : State) (v : Word) : (s.setAF v).aAlt = s.aAlt := rfl
@[simp] theorem State.setAF_fAlt (s : State) (v : Word) : (s.setAF v).fAlt = s.fAlt := rfl
@[simp] theorem State.setAF_bAlt (s : State) (v : Word) : (s.setAF v).bAlt = s.bAlt := rfl
@[simp] theorem State.setAF_cAlt (s : State) (v : Word) : (s.setAF v).cAlt = s.cAlt := rfl
@[simp] theorem State.setAF_dAlt (s : State) (v : Word) : (s.setAF v).dAlt = s.dAlt := rfl
@[simp] theorem State.setAF_eAlt (s : State) (v : Word) : (s.setAF v).eAlt = s.eAlt := rfl
@[simp] theorem State.setAF_hAlt (s : State) (v : Word) : (s.setAF v).hAlt = s.hAlt := rfl
@[simp] theorem State.setAF_lAlt (s : State) (v : Word) : (s.setAF v).lAlt = s.lAlt := rfl
@[simp] theorem State.setAF_ix (s : State) (v : Word) : (s.setAF v).ix = s.ix := rfl
@[simp] theorem State.setAF_iy (s : State) (v : Word) : (s.setAF v).iy = s.iy := rfl
@[simp] theorem State.setAF_sp (s : State) (v : Word) : (s.setAF v).sp = s.sp := rfl
@[simp] theorem State.setAF_pc (s : State) (v : Word) : (s.setAF v).pc = s.pc := rfl
@[simp] theorem State.setAF_i (s : State) (v : Word) : (s.setAF v).i = s.i := rfl
@[simp] theorem State.setAF_rLo (s : State) (v : Word) : (s.setAF v).rLo = s.rLo := rfl
@[simp] theorem State.setAF_rHi (s : State) (v : Word) : (s.setAF v).rHi = s.rHi := rfl
@[simp] theorem State.setAF_im (s : State) (v : Word) : (s.setAF v).im = s.im := rfl
@[simp] theorem State.setAF_iff1 (s : State) (v : Word) : (s.setAF v).iff1 = s.iff1 := rfl
@[simp] theorem State.setAF_iff2 (s : State) (v : Word) : (s.setAF v).iff2 = s.iff2 := rfl
@[simp] theorem State.setAF_eiPos (s : State) (v : Word) : (s.setAF v).eiPos = s.eiPos := rfl
@[simp] theorem State.setAF_haltPos (s : State) (v : Word) : (s.setAF v).haltPos = s.haltPos := rfl
@[simp] theorem State.setAF_halted (s : State) (v : Word) : (s.setAF v).halted = s.halted := rfl
@[simp] theorem State.setAF_t (s : State) (v : Word) : (s.setAF v).t = s.t := rfl
@[simp] theorem State.setAF_tTotal (s : State) (v : Word) : (s.setAF v).tTotal = s.tTotal := rfl
@[simp] theorem State.setAF_frameCounter (s : State) (v : Word) : (s.setAF v).frameCounter = s.frameCounter := rfl
@[simp] theorem State.setAF_ram (s : State) (v : Word) : (s.setAF v).ram = s.ram := rfl
@[simp] theorem State.setAF_rom (s : State) (v : Word) : (s.setAF v).rom = s.rom := rfl
@[simp] theorem State.setAF_p7FFD (s : State) (v : Word) : (s.setAF v).p7FFD = s.p7FFD := rfl
@[simp] theorem State.setAF_p1FFD (s : State) (v : Word) : (s.setAF v).p1FFD = s.p1FFD := rfl
@[simp] theorem State.setAF_dos (s : State) (v : Word) : (s.setAF v).dos = s.dos := rfl
@[simp] theorem State.setAF_pFE (s : State) (v : Word) : (s.setAF v).pFE = s.pFE := rfl
@[simp] theorem State.setAF_tape (s : State) (v : Word) : (s.setAF v).tape = s.tape := rfl
@[simp] theorem State.setAF_disks (s : State) (v : Word) : (s.setAF v).disks = s.disks := rfl
@[simp] theorem State.setAF_drives (s : State) (v : Word) : (s.setAF v).drives = s.drives := rfl
@[simp] theorem State.setAF_wd (s : State) (v : Word) : (s.setAF v).wd = s.wd := rfl
@[simp] theorem State.setAF_kbd (s : State) (v : Word) : (s.setAF v).kbd = s.kbd := rfl
@[simp] theorem State.setAF_requests (s : State) (v : Word) : (s.setAF v).requests = s.requests := rfl
@[simp] theorem State.setAF_cfg (s : State) (v : Word) : (s.setAF v).cfg = s.cfg := rfl
@[simp] theorem State.setAF_draws (s : State) (v : Word) : (s.setAF v).draws = s.draws := rfl

/-! ### `setBC` -/

@[simp] theorem State.setBC_a (s : State) (v : Word) : (s.setBC v).a = s.a := rfl
@[simp] theorem State.setBC_f (s : State) (v : Word) : (s.setBC v).f = s.f := rfl
@[simp] theorem State.setBC_b (s : State) (v : Word) : (s.setBC v).b = hiByte v := rfl
@[simp] theorem State.setBC_c (s : State) (v : Word) : (s.setBC v).c = loByte v := rfl
@[simp] theorem State.setBC_d (s : State) (v : Word) : (s.setBC v).d = s.d := rfl
@[simp] theorem State.setBC_e (s : State) (v : Word) : (s.setBC v).e = s.e := rfl
@[simp] theorem State.setBC_h (s : State) (v : Word) : (s.setBC v).h = s.h := rfl
@[simp] theorem State.setBC_l (s : State) (v : Word) : (s.setBC v).l = s.l := rfl
@[simp] theorem State.setBC_aAlt (s : State) (v : Word) : (s.setBC v).aAlt = s.aAlt := rfl
@[simp] theorem State.setBC_fAlt (s : State) (v : Word) : (s.setBC v).fAlt = s.fAlt := rfl
@[simp] theorem State.setBC_bAlt (s : State) (v : Word) : (s.setBC v).bAlt = s.bAlt := rfl
@[simp] theorem State.setBC_cAlt (s : State) (v : Word) : (s.setBC v).cAlt = s.cAlt := rfl
@[simp] theorem State.setBC_dAlt (s : State) (v : Word) : (s.setBC v).dAlt = s.dAlt := rfl
@[simp] theorem State.setBC_eAlt (s : State) (v : Word) : (s.setBC v).eAlt = s.eAlt := rfl
@[simp] theorem State.setBC_hAlt (s : State) (v : Word) : (s.setBC v).hAlt = s.hAlt := rfl
@[simp] theorem State.setBC_lAlt (s : State) (v : Word) : (s.setBC v).lAlt = s.lAlt := rfl
@[simp] theorem State.setBC_ix (s : State) (v : Word) : (s.setBC v).ix = s.ix := rfl
@[simp] theorem State.setBC_iy (s : State) (v : Word) : (s.setBC v).iy = s.iy := rfl
@[simp] theorem State.setBC_sp (s : State) (v : Word) : (s.setBC v).sp = s.sp := rfl
@[simp] theorem State.setBC_pc (s : State) (v : Word) : (s.setBC v).pc = s.pc := rfl
@[simp] theorem State.setBC_i (s : State) (v : Word) : (s.setBC v).i = s.i := rfl
@[simp] theorem State.setBC_rLo (s : State) (v : Word) : (s.setBC v).rLo = s.rLo := rfl
@[simp] theorem State.setBC_rHi (s : State) (v : Word) : (s.setBC v).rHi = s.rHi := rfl
@[simp] theorem State.setBC_im (s : State) (v : Word) : (s.setBC v).im = s.im := rfl
@[simp] theorem State.setBC_iff1 (s : State) (v : Word) : (s.setBC v).iff1 = s.iff1 := rfl
@[simp] theorem State.setBC_iff2 (s : State) (v : Word) : (s.setBC v).iff2 = s.iff2 := rfl
@[simp] theorem State.setBC_eiPos (s : State) (v : Word) : (s.setBC v).eiPos = s.eiPos := rfl
@[simp] theorem State.setBC_haltPos (s : State) (v : Word) : (s.setBC v).haltPos = s.haltPos := rfl
@[simp] theorem State.setBC_halted (s : State) (v : Word) : (s.setBC v).halted = s.halted := rfl
@[simp] theorem State.setBC_t (s : State) (v : Word) : (s.setBC v).t = s.t := rfl
@[simp] theorem State.setBC_tTotal (s : State) (v : Word) : (s.setBC v).tTotal = s.tTotal := rfl
@[simp] theorem State.setBC_frameCounter (s : State) (v : Word) : (s.setBC v).frameCounter = s.frameCounter := rfl
@[simp] theorem State.setBC_ram (s : State) (v : Word) : (s.setBC v).ram = s.ram := rfl
@[simp] theorem State.setBC_rom (s : State) (v : Word) : (s.setBC v).rom = s.rom := rfl
@[simp] theorem State.setBC_p7FFD (s : State) (v : Word) : (s.setBC v).p7FFD = s.p7FFD := rfl
@[simp] theorem State.setBC_p1FFD (s : State) (v : Word) : (s.setBC v).p1FFD = s.p1FFD := rfl
@[simp] theorem State.setBC_dos (s : State) (v : Word) : (s.setBC v).dos = s.dos := rfl
@[simp] theorem State.setBC_pFE (s : State) (v : Word) : (s.setBC v).pFE = s.pFE := rfl
@[simp] theorem State.setBC_tape (s : State) (v : Word) : (s.setBC v).tape = s.tape := rfl
@[simp] theorem State.setBC_disks (s : State) (v : Word) : (s.setBC v).disks = s.disks := rfl
@[simp] theorem State.setBC_drives (s : State) (v : Word) : (s.setBC v).drives = s.drives := rfl
@[simp] theorem State.setBC_wd (s : State) (v : Word) : (s.setBC v).wd = s.wd := rfl
@[simp] theorem State.setBC_kbd (s : State) (v : Word) : (s.setBC v).kbd = s.kbd := rfl
@[simp] theorem State.setBC_requests (s : State) (v : Word) : (s.setBC v).requests = s.requests := rfl
@[simp] theorem State.setBC_cfg (s : State) (v : Word) : (s.setBC v).cfg = s.cfg := rfl
@[simp] theorem State.setBC_draws (s : State) (v : Word) : (s.setBC v).draws = s.draws := rfl

/-! ### `setDE` -/

@[simp] theorem State.setDE_a (s : State) (v : Word) : (s.setDE v).a = s.a := rfl
@[simp] theorem State.setDE_f (s : State) (v : Word) : (s.setDE v).f = s.f := rfl
@[simp] theorem State.setDE_b (s : State) (v : Word) : (s.setDE v).b = s.b := rfl
@[simp] theorem State.setDE_c (s : State) (v : Word) : (s.setDE v).c = s.c := rfl
@[simp] theorem State.setDE_d (s : State) (v : Word) : (s.setDE v).d = hiByte v := rfl
@[simp] theorem State.setDE_e (s : State) (v : Word) : (s.setDE v).e = loByte v := rfl
@[simp] theorem State.setDE_h (s : State) (v : Word) : (s.setDE v).h = s.h := rfl
@[simp] theorem State.setDE_l (s : State) (v : Word) : (s.setDE v).l = s.l := rfl
@[simp] theorem State.setDE_aAlt (s : State) (v : Word) : (s.setDE v).aAlt = s.aAlt := rfl
@[simp] theorem State.setDE_fAlt (s : State) (v : Word) : (s.setDE v).fAlt = s.fAlt := rfl
@[simp] theorem State.setDE_bAlt (s : State) (v : Word) : (s.setDE v).bAlt = s.bAlt := rfl
@[simp] theorem State.setDE_cAlt (s : State) (v : Word) : (s.setDE v).cAlt = s.cAlt := rfl
@[simp] theorem State.setDE_dAlt (s : State) (v : Word) : (s.setDE v).dAlt = s.dAlt := rfl
@[simp] theorem State.setDE_eAlt (s : State) (v : Word) : (s.setDE v).eAlt = s.eAlt := rfl
@[simp] theorem State.setDE_hAlt (s : State) (v : Word) : (s.setDE v).hAlt = s.hAlt := rfl
@[simp] theorem State.setDE_lAlt (s : State) (v : Word) : (s.setDE v).lAlt = s.lAlt := rfl
@[simp] theorem State.setDE_ix (s : State) (v : Word) : (s.setDE v).ix = s.ix := rfl
@[simp] theorem State.setDE_iy (s : State) (v : Word) : (s.setDE v).iy = s.iy := rfl
@[simp] theorem State.setDE_sp (s : State) (v : Word) : (s.setDE v).sp = s.sp := rfl
@[simp] theorem State.setDE_pc (s : State) (v : Word) : (s.setDE v).pc = s.pc := rfl
@[simp] theorem State.setDE_i (s : State) (v : Word) : (s.setDE v).i = s.i := rfl
@[simp] theorem State.setDE_rLo (s : State) (v : Word) : (s.setDE v).rLo = s.rLo := rfl
@[simp] theorem State.setDE_rHi (s : State) (v : Word) : (s.setDE v).rHi = s.rHi := rfl
@[simp] theorem State.setDE_im (s : State) (v : Word) : (s.setDE v).im = s.im := rfl
@[simp] theorem State.setDE_iff1 (s : State) (v : Word) : (s.setDE v).iff1 = s.iff1 := rfl
@[simp] theorem State.setDE_iff2 (s : State) (v : Word) : (s.setDE v).iff2 = s.iff2 := rfl
@[simp] theorem State.setDE_eiPos (s : State) (v : Word) : (s.setDE v).eiPos = s.eiPos := rfl
@[simp] theorem State.setDE_haltPos (s : State) (v : Word) : (s.setDE v).haltPos = s.haltPos := rfl
@[simp] theorem State.setDE_halted (s : State) (v : Word) : (s.setDE v).halted = s.halted := rfl
@[simp] theorem State.setDE_t (s : State) (v : Word) : (s.setDE v).t = s.t := rfl
@[simp] theorem State.setDE_tTotal (s : State) (v : Word) : (s.setDE v).tTotal = s.tTotal := rfl
@[simp] theorem State.setDE_frameCounter (s : State) (v : Word) : (s.setDE v).frameCounter = s.frameCounter := rfl
@[simp] theorem State.setDE_ram (s : State) (v : Word) : (s.setDE v).ram = s.ram := rfl
@[simp] theorem State.setDE_rom (s : State) (v : Word) : (s.setDE v).rom = s.rom := rfl
@[simp] theorem State.setDE_p7FFD (s : State) (v : Word) : (s.setDE v).p7FFD = s.p7FFD := rfl
@[simp] theorem State.setDE_p1FFD (s : State) (v : Word) : (s.setDE v).p1FFD = s.p1FFD := rfl
@[simp] theorem State.setDE_dos (s : State) (v : Word) : (s.setDE v).dos = s.dos := rfl
@[simp] theorem State.setDE_pFE (s : State) (v : Word) : (s.setDE v).pFE = s.pFE := rfl
@[simp] theorem State.setDE_tape (s : State) (v : Word) : (s.setDE v).tape = s.tape := rfl
@[simp] theorem State.setDE_disks (s : State) (v : Word) : (s.setDE v).disks = s.disks := rfl
@[simp] theorem State.setDE_drives (s : State) (v : Word) : (s.setDE v).drives = s.drives := rfl
@[simp] theorem State.setDE_wd (s : State) (v : Word) : (s.setDE v).wd = s.wd := rfl
@[simp] theorem State.setDE_kbd (s : State) (v : Word) : (s.setDE v).kbd = s.kbd := rfl
@[simp] theorem State.setDE_requests (s : State) (v : Word) : (s.setDE v).requests = s.requests := rfl
@[simp] theorem State.setDE_cfg (s : State) (v : Word) : (s.setDE v).cfg = s.cfg := rfl
@[simp] theorem State.setDE_draws (s : State) (v : Word) : (s.setDE v).draws = s.draws := rfl

/-! ### `setHL` -/

@[simp] theorem State.setHL_a (s : State) (v : Word) : (s.setHL v).a = s.a := rfl
@[simp] theorem State.setHL_f (s : State) (v : Word) : (s.setHL v).f = s.f := rfl
@[simp] theorem State.setHL_b (s : State) (v : Word) : (s.setHL v).b = s.b := rfl
@[simp] theorem State.setHL_c (s : State) (v : Word) : (s.setHL v).c = s.c := rfl
@[simp] theorem State.setHL_d (s : State) (v : Word) : (s.setHL v).d = s.d := rfl
@[simp] theorem State.setHL_e (s : State) (v : Word) : (s.setHL v).e = s.e := rfl
@[simp] theorem State.setHL_h (s : State) (v : Word) : (s.setHL v).h = hiByte v := rfl
@[simp] theorem State.setHL_l (s : State) (v : Word) : (s.setHL v).l = loByte v := rfl
@[simp] theorem State.setHL_aAlt (s : State) (v : Word) : (s.setHL v).aAlt = s.aAlt := rfl
@[simp] theorem State.setHL_fAlt (s : State) (v : Word) : (s.setHL v).fAlt = s.fAlt := rfl
@[simp] theorem State.setHL_bAlt (s : State) (v : Word) : (s.setHL v).bAlt = s.bAlt := rfl
@[simp] theorem State.setHL_cAlt (s : State) (v : Word) : (s.setHL v).cAlt = s.cAlt := rfl
@[simp] theorem State.setHL_dAlt (s : State) (v : Word) : (s.setHL v).dAlt = s.dAlt := rfl
@[simp] theorem State.setHL_eAlt (s : State) (v : Word) : (s.setHL v).eAlt = s.eAlt := rfl
@[simp] theorem State.setHL_hAlt (s : State) (v : Word) : (s.setHL v).hAlt = s.hAlt := rfl
@[simp] theorem State.setHL_lAlt (s : State) (v : Word) : (s.setHL v).lAlt = s.lAlt := rfl
@[simp] theorem State.setHL_ix (s : State) (v : Word) : (s.setHL v).ix = s.ix := rfl
@[simp] theorem State.setHL_iy (s : State) (v : Word) : (s.setHL v).iy = s.iy := rfl
@[simp] theorem State.setHL_sp (s : State) (v : Word) : (s.setHL v).sp = s.sp := rfl
@[simp] theorem State.setHL_pc (s : State) (v : Word) : (s.setHL v).pc = s.pc := rfl
@[simp] theorem State.setHL_i (s : State) (v : Word) : (s.setHL v).i = s.i := rfl
@[simp] theorem State.setHL_rLo (s : State) (v : Word) : (s.setHL v).rLo = s.rLo := rfl
@[simp] theorem State.setHL_rHi (s : State) (v : Word) : (s.setHL v).rHi = s.rHi := rfl
@[simp] theorem State.setHL_im (s : State) (v : Word) : (s.setHL v).im = s.im := rfl
@[simp] theorem State.setHL_iff1 (s : State) (v : Word) : (s.setHL v).iff1 = s.iff1 := rfl
@[simp] theorem State.setHL_iff2 (s : State) (v : Word) : (s.setHL v).iff2 = s.iff2 := rfl
@[simp] theorem State.setHL_eiPos (s : State) (v : Word) : (s.setHL v).eiPos = s.eiPos := rfl
@[simp] theorem State.setHL_haltPos (s : State) (v : Word) : (s.setHL v).haltPos = s.haltPos := rfl
@[simp] theorem State.setHL_halted (s : State) (v : Word) : (s.setHL v).halted = s.halted := rfl
@[simp] theorem State.setHL_t (s : State) (v : Word) : (s.setHL v).t = s.t := rfl
@[simp] theorem State.setHL_tTotal (s : State) (v : Word) : (s.setHL v).tTotal = s.tTotal := rfl
@[simp] theorem State.setHL_frameCounter (s : State) (v : Word) : (s.setHL v).frameCounter = s.frameCounter := rfl
@[simp] theorem State.setHL_ram (s : State) (v : Word) : (s.setHL v).ram = s.ram := rfl
@[simp] theorem State.setHL_rom (s : State) (v : Word) : (s.setHL v).rom = s.rom := rfl
@[simp] theorem State.setHL_p7FFD (s : State) (v : Word) : (s.setHL v).p7FFD = s.p7FFD := rfl
@[simp] theorem State.setHL_p1FFD (s : State) (v : Word) : (s.setHL v).p1FFD = s.p1FFD := rfl
@[simp] theorem State.setHL_dos (s : State) (v : Word) : (s.setHL v).dos = s.dos := rfl
@[simp] theorem State.setHL_pFE (s : State) (v : Word) : (s.setHL v).pFE = s.pFE := rfl
@[simp] theorem State.setHL_tape (s : State) (v : Word) : (s.setHL v).tape = s.tape := rfl
@[simp] theorem State.setHL_disks (s : State) (v : Word) : (s.setHL v).disks = s.disks := rfl
@[simp] theorem State.setHL_drives (s : State) (v : Word) : (s.setHL v).drives = s.drives := rfl
@[simp] theorem State.setHL_wd (s : State) (v : Word) : (s.setHL v).wd = s.wd := rfl
@[simp] theorem State.setHL_kbd (s : State) (v : Word) : (s.setHL v).kbd = s.kbd := rfl
@[simp] theorem State.setHL_requests (s : State) (v : Word) : (s.setHL v).requests = s.requests := rfl
@[simp] theorem State.setHL_cfg (s : State) (v : Word) : (s.setHL v).cfg = s.cfg := rfl
@[simp] theorem State.setHL_draws (s : State) (v : Word) : (s.setHL v).draws = s.draws := rfl

/-! ### `memWrite` -/

@[simp] theorem State.memWrite_a (s : State) (addr : Word) (v : Byte) : (s.memWrite addr v).a = s.a := by unfold State.memWrite; split <;> rfl
@[simp] theorem State.memWrite_f (s : State) (addr : Word) (v : Byte) : (s.memWrite addr v).f = s.f := by unfold State.memWrite; split <;> rfl
@[simp] theorem State.memWrite_b (s : State) (addr : Word) (v : Byte) : (s.memWrite addr v).b = s.b := by unfold State.memWrite; split <;> rfl
@[simp] theorem State.memWrite_c (s : State) (addr : Word) (v : Byte) : (s.memWrite addr v).c = s.c := by unfold State.memWrite; split <;> rfl
@[simp] theorem State.memWrite_d (s : State) (addr : Word) (v : Byte) : (s.memWrite addr v).d = s.d := by unfold State.memWrite; split <;> rfl
@[simp] theorem State.memWrite_e (s : State) (addr : Word) (v : Byte) : (s.memWrite addr v).e = s.e := by unfold State.memWrite; split <;> rfl
@[simp] theorem State.memWrite_h (s : State) (addr : Word) (v : Byte) : (s.memWrite addr v).h = s.h := by unfold State.memWrite; split <;> rfl
@[simp] theorem State.memWrite_l (s : State) (addr : Word) (v : Byte) : (s.memWrite addr v).l = s.l := by unfold State.memWrite; split <;> rfl
@[simp] theorem State.memWrite_aAlt (s : State) (addr : Word) (v : Byte) : (s.memWrite addr v).aAlt = s.aAlt := by unfold State.memWrite; split <;> rfl
@[simp] theorem State.memWrite_fAlt (s : State) (addr : Word) (v : Byte) : (s.memWrite addr v).fAlt = s.fAlt := by unfold State.memWrite; split <;> rfl
@[simp] theorem State.memWrite_bAlt (s : State) (addr : Word) (v : Byte) : (s.memWrite addr v).bAlt = s.bAlt := by unfold State.memWrite; split <;> rfl
@[simp] theorem State.memWrite_cAlt (s : State) (addr : Word) (v : Byte) : (s.memWrite addr v).cAlt = s.cAlt := by unfold State.memWrite; split <;> rfl
@[simp] theorem State.memWrite_dAlt (s : State) (addr : Word) (v : Byte) : (s.memWrite addr v).dAlt = s.dAlt := by unfold State.memWrite; split <;> rfl
@[simp] theorem State.memWrite_eAlt (s : State) (addr : Word) (v : Byte) : (s.memWrite addr v).eAlt = s.eAlt := by unfold State.memWrite; split <;> rfl
@[simp] theorem State.memWrite_hAlt (s : State) (addr : Word) (v : Byte) : (s.memWrite addr v).hAlt = s.hAlt := by unfold State.memWrite; split <;> rfl
@[simp] theorem State.memWrite_lAlt (s : State) (addr : Word) (v : Byte) : (s.memWrite addr v).lAlt = s.lAlt := by unfold State.memWrite; split <;> rfl
@[simp] theorem State.memWrite_ix (s : State) (addr : Word) (v : Byte) : (s.memWrite addr v).ix = s.ix := by unfold State.memWrite; split <;> rfl
@[simp] theorem State.memWrite_iy (s : State) (addr : Word) (v : Byte) : (s.memWrite addr v).iy = s.iy := by unfold State.memWrite; split <;> rfl
@[simp] theorem State.memWrite_sp (s : State) (addr : Word) (v : Byte) : (s.memWrite addr v).sp = s.sp := by unfold State.memWrite; split <;> rfl
@[simp] theorem State.memWrite_pc (s : State) (addr : Word) (v : Byte) : (s.memWrite addr v).pc = s.pc := by unfold State.memWrite; split <;> rfl
@[simp] theorem State.memWrite_i (s : State) (addr : Word) (v : Byte) : (s.memWrite addr v).i = s.i := by unfold State.memWrite; split <;> rfl
@[simp] theorem State.memWrite_rLo (s : State) (addr : Word) (v : Byte) : (s.memWrite addr v).rLo = s.rLo := by unfold State.memWrite; split <;> rfl
@[simp] theorem State.memWrite_rHi (s : State) (addr : Word) (v : Byte) : (s.memWrite addr v).rHi = s.rHi := by unfold State.memWrite; split <;> rfl
@[simp] theorem State.memWrite_im (s : State) (addr : Word) (v : Byte) : (s.memWrite addr v).im = s.im := by unfold State.memWrite; split <;> rfl
@[simp] theorem State.memWrite_iff1 (s : State) (addr : Word) (v : Byte) : (s.memWrite addr v).iff1 = s.iff1 := by unfold State.memWrite; split <;> rfl
@[simp] theorem State.memWrite_iff2 (s : State) (addr : Word) (v : Byte) : (s.memWrite addr v).iff2 = s.iff2 := by unfold State.memWrite; split <;> rfl
@[simp] theorem State.memWrite_eiPos (s : State) (addr : Word) (v : Byte) : (s.memWrite addr v).eiPos = s.eiPos := by unfold State.memWrite; split <;> rfl
@[simp] theorem State.memWrite_haltPos (s : State) (addr : Word) (v : Byte) : (s.memWrite addr v).haltPos = s.haltPos := by unfold State.memWrite; split <;> rfl
@[simp] theorem State.memWrite_halted (s : State) (addr : Word) (v : Byte) : (s.memWrite addr v).halted = s.halted := by unfold State.memWrite; split <;> rfl
@[simp] theorem State.memWrite_t (s : State) (addr : Word) (v : Byte) : (s.memWrite addr v).t = s.t := by unfold State.memWrite; split <;> rfl
@[simp] theorem State.memWrite_tTotal (s : State) (addr : Word) (v : Byte) : (s.memWrite addr v).tTotal = s.tTotal := by unfold State.memWrite; split <;> rfl
@[simp] theorem State.memWrite_frameCounter (s : State) (addr : Word) (v : Byte) : (s.memWrite addr v).frameCounter = s.frameCounter := by unfold State.memWrite; split <;> rfl
@[simp] theorem State.memWrite_rom (s : State) (addr : Word) (v : Byte) : (s.memWrite addr v).rom = s.rom := by unfold State.memWrite; split <;> rfl
@[simp] theorem State.memWrite_p7FFD (s : State) (addr : Word) (v : Byte) : (s.memWrite addr v).p7FFD = s.p7FFD := by unfold State.memWrite; split <;> rfl
@[simp] theorem State.memWrite_p1FFD (s : State) (addr : Word) (v : Byte) : (s.memWrite addr v).p1FFD = s.p1FFD := by unfold State.memWrite; split <;> rfl
@[simp] theorem State.memWrite_dos (s : State) (addr : Word) (v : Byte) : (s.memWrite addr v).dos = s.dos := by unfold State.memWrite; split <;> rfl
@[simp] theorem State.memWrite_pFE (s : State) (addr : Word) (v : Byte) : (s.memWrite addr v).pFE = s.pFE := by unfold State.memWrite; split <;> rfl
@[simp] theorem State.memWrite_tape (s : State) (addr : Word) (v : Byte) : (s.memWrite addr v).tape = s.tape := by unfold State.memWrite; split <;> rfl
@[simp] theorem State.memWrite_disks (s : State) (addr : Word) (v : Byte) : (s.memWrite addr v).disks = s.disks := by unfold State.memWrite; split <;> rfl
@[simp] theorem State.memWrite_drives (s : State) (addr : Word) (v : Byte) : (s.memWrite addr v).drives = s.drives := by unfold State.memWrite; split <;> rfl
@[simp] theorem State.memWrite_wd (s : State) (addr : Word) (v : Byte) : (s.memWrite addr v).wd = s.wd := by unfold State.memWrite; split <;> rfl
@[simp] theorem State.memWrite_kbd (s : State) (addr : Word) (v : Byte) : (s.memWrite addr v).kbd = s.kbd := by unfold State.memWrite; split <;> rfl
@[simp] theorem State.memWrite_requests (s : State) (addr : Word) (v : Byte) : (s.memWrite addr v).requests = s.requests := by unfold State.memWrite; split <;> rfl
@[simp] theorem State.memWrite_cfg (s : State) (addr : Word) (v : Byte) : (s.memWrite addr v).cfg = s.cfg := by unfold State.memWrite; split <;> rfl
@[simp] theorem State.memWrite_draws (s : State) (addr : Word) (v : Byte) : (s.memWrite addr v).draws = s.draws := by unfold State.memWrite; split <;> rfl

/-! ### `memWrite16` -/

@[simp] theorem State.memWrite16_a (s : State) (addr v : Word) : (s.memWrite16 addr v).a = s.a := by simp [State.memWrite16]
@[simp] theorem State.memWrite16_f (s : State) (addr v : Word) : (s.memWrite16 addr v).f = s.f := by simp [State.memWrite16]
@[simp] theorem State.memWrite16_b (s : State) (addr v : Word) : (s.memWrite16 addr v).b = s.b := by simp [State.memWrite16]
@[simp] theorem State.memWrite16_c (s : State) (addr v : Word) : (s.memWrite16 addr v).c = s.c := by simp [State.memWrite16]
@[simp] theorem State.memWrite16_d (s : State) (addr v : Word) : (s.memWrite16 addr v).d = s.d := by simp [State.memWrite16]
@[simp] theorem State.memWrite16_e (s : State) (addr v : Word) : (s.memWrite16 addr v).e = s.e := by simp [State.memWrite16]
@[simp] theorem State.memWrite16_h (s : State) (addr v : Word) : (s.memWrite16 addr v).h = s.h := by simp [State.memWrite16]
@[simp] theorem State.memWrite16_l (s : State) (addr v : Word) : (s.memWrite16 addr v).l = s.l := by simp [State.memWrite16]
@[simp] theorem State.memWrite16_aAlt (s : State) (addr v : Word) : (s.memWrite16 addr v).aAlt = s.aAlt := by simp [State.memWrite16]
@[simp] theorem State.memWrite16_fAlt (s : State) (addr v : Word) : (s.memWrite16 addr v).fAlt = s.fAlt := by simp [State.memWrite16]
@[simp] theorem State.memWrite16_bAlt (s : State) (addr v : Word) : (s.memWrite16 addr v).bAlt = s.bAlt := by simp [State.memWrite16]
@[simp] theorem State.memWrite16_cAlt (s : State) (addr v : Word) : (s.memWrite16 addr v).cAlt = s.cAlt := by simp [State.memWrite16]
@[simp] theorem State.memWrite16_dAlt (s : State) (addr v : Word) : (s.memWrite16 addr v).dAlt = s.dAlt := by simp [State.memWrite16]
@[simp] theorem State.memWrite16_eAlt (s : State) (addr v : Word) : (s.memWrite16 addr v).eAlt = s.eAlt := by simp [State.memWrite16]
@[simp] theorem State.memWrite16_hAlt (s : State) (addr v : Word) : (s.memWrite16 addr v).hAlt = s.hAlt := by simp [State.memWrite16]
@[simp] theorem State.memWrite16_lAlt (s : State) (addr v : Word) : (s.memWrite16 addr v).lAlt = s.lAlt := by simp [State.memWrite16]
@[simp] theorem State.memWrite16_ix (s : State) (addr v : Word) : (s.memWrite16 addr v).ix = s.ix := by simp [State.memWrite16]
@[simp] theorem State.memWrite16_iy (s : State) (addr v : Word) : (s.memWrite16 addr v).iy = s.iy := by simp [State.memWrite16]
@[simp] theorem State.memWrite16_sp (s : State) (addr v : Word) : (s.memWrite16 addr v).sp = s.sp := by simp [State.memWrite16]
@[simp] theorem State.memWrite16_pc (s : State) (addr v : Word) : (s.memWrite16 addr v).pc = s.pc := by simp [State.memWrite16]
@[simp] theorem State.memWrite16_i (s : State) (addr v : Word) : (s.memWrite16 addr v).i = s.i := by simp [State.memWrite16]
@[simp] theorem State.memWrite16_rLo (s : State) (addr v : Word) : (s.memWrite16 addr v).rLo = s.rLo := by simp [State.memWrite16]
@[simp] theorem State.memWrite16_rHi (s : State) (addr v : Word) : (s.memWrite16 addr v).rHi = s.rHi := by simp [State.memWrite16]
@[simp] theorem State.memWrite16_im (s : State) (addr v : Word) : (s.memWrite16 addr v).im = s.im := by simp [State.memWrite16]
@[simp] theorem State.memWrite16_iff1 (s : State) (addr v : Word) : (s.memWrite16 addr v).iff1 = s.iff1 := by simp [State.memWrite16]
@[simp] theorem State.memWrite16_iff2 (s : State) (addr v : Word) : (s.memWrite16 addr v).iff2 = s.iff2 := by simp [State.memWrite16]
@[simp] theorem State.memWrite16_eiPos (s : State) (addr v : Word) : (s.memWrite16 addr v).eiPos = s.eiPos := by simp [State.memWrite16]
@[simp] theorem State.memWrite16_haltPos (s : State) (addr v : Word) : (s.memWrite16 addr v).haltPos = s.haltPos := by simp [State.memWrite16]
@[simp] theorem State.memWrite16_halted (s : State) (addr v : Word) : (s.memWrite16 addr v).halted = s.halted := by simp [State.memWrite16]
@[simp] theorem State.memWrite16_t (s : State) (addr v : Word) : (s.memWrite16 addr v).t = s.t := by simp [State.memWrite16]
@[simp] theorem State.memWrite16_tTotal (s : State) (addr v : Word) : (s.memWrite16 addr v).tTotal = s.tTotal := by simp [State.memWrite16]
@[simp] theorem State.memWrite16_frameCounter (s : State) (addr v : Word) : (s.memWrite16 addr v).frameCounter = s.frameCounter := by simp [State.memWrite16]
@[simp] theorem State.memWrite16_rom (s : State) (addr v : Word) : (s.memWrite16 addr v).rom = s.rom := by simp [State.memWrite16]
@[simp] theorem State.memWrite16_p7FFD (s : State) (addr v : Word) : (s.memWrite16 addr v).p7FFD = s.p7FFD := by simp [State.memWrite16]
@[simp] theorem State.memWrite16_p1FFD (s : State) (addr v : Word) : (s.memWrite16 addr v).p1FFD = s.p1FFD := by simp [State.memWrite16]
@[simp] theorem State.memWrite16_dos (s : State) (addr v : Word) : (s.memWrite16 addr v).dos = s.dos := by simp [State.memWrite16]
@[simp] theorem State.memWrite16_pFE (s : State) (addr v : Word) : (s.memWrite16 addr v).pFE = s.pFE := by simp [State.memWrite16]
@[simp] theorem State.memWrite16_tape (s : State) (addr v : Word) : (s.memWrite16 addr v).tape = s.tape := by simp [State.memWrite16]
@[simp] theorem State.memWrite16_disks (s : State) (addr v : Word) : (s.memWrite16 addr v).disks = s.disks := by simp [State.memWrite16]
@[simp] theorem State.memWrite16_drives (s : State) (addr v : Word) : (s.memWrite16 addr v).drives = s.drives := by simp [State.memWrite16]
@[simp] theorem State.memWrite16_wd (s : State) (addr v : Word) : (s.memWrite16 addr v).wd = s.wd := by simp [State.memWrite16]
@[simp] theorem State.memWrite16_kbd (s : State) (addr v : Word) : (s.memWrite16 addr v).kbd = s.kbd := by simp [State.memWrite16]
@[simp] theorem State.memWrite16_requests (s : State) (addr v : Word) : (s.memWrite16 addr v).requests = s.requests := by simp [State.memWrite16]
@[simp] theorem State.memWrite16_cfg (s : State) (addr v : Word) : (s.memWrite16 addr v).cfg = s.cfg := by simp [State.memWrite16]
@[simp] theorem State.memWrite16_draws (s : State) (addr v : Word) : (s.memWrite16 addr v).draws = s.draws := by simp [State.memWrite16]

/-! ### `push16` -/

@[simp] theorem State.push16_a (s : State) (v : Word) : (s.push16 v).a = s.a := by simp [State.push16]
@[simp] theorem State.push16_f (s : State) (v : Word) : (s.push16 v).f = s.f := by simp [State.push16]
@[simp] theorem State.push16_b (s : State) (v : Word) : (s.push16 v).b = s.b := by simp [State.push16]
@[simp] theorem State.push16_c (s : State) (v : Word) : (s.push16 v).c = s.c := by simp [State.push16]
@[simp] theorem State.push16_d (s : State) (v : Word) : (s.push16 v).d = s.d := by simp [State.push16]
@[simp] theorem State.push16_e (s : State) (v : Word) : (s.push16 v).e = s.e := by simp [State.push16]
@[simp] theorem State.push16_h (s : State) (v : Word) : (s.push16 v).h = s.h := by simp [State.push16]
@[simp] theorem State.push16_l (s : State) (v : Word) : (s.push16 v).l = s.l := by simp [State.push16]
@[simp] theorem State.push16_aAlt (s : State) (v : Word) : (s.push16 v).aAlt = s.aAlt := by simp [State.push16]
@[simp] theorem State.push16_fAlt (s : State) (v : Word) : (s.push16 v).fAlt = s.fAlt := by simp [State.push16]
@[simp] theorem State.push16_bAlt (s : State) (v : Word) : (s.push16 v).bAlt = s.bAlt := by simp [State.push16]
@[simp] theorem State.push16_cAlt (s : State) (v : Word) : (s.push16 v).cAlt = s.cAlt := by simp [State.push16]
@[simp] theorem State.push16_dAlt (s : State) (v : Word) : (s.push16 v).dAlt = s.dAlt := by simp [State.push16]
@[simp] theorem State.push16_eAlt (s : State) (v : Word) : (s.push16 v).eAlt = s.eAlt := by simp [State.push16]
@[simp] theorem State.push16_hAlt (s : State) (v : Word) : (s.push16 v).hAlt = s.hAlt := by simp [State.push16]
@[simp] theorem State.push16_lAlt (s : State) (v : Word) : (s.push16 v).lAlt = s.lAlt := by simp [State.push16]
@[simp] theorem State.push16_ix (s : State) (v : Word) : (s.push16 v).ix = s.ix := by simp [State.push16]
@[simp] theorem State.push16_iy (s : State) (v : Word) : (s.push16 v).iy = s.iy := by simp [State.push16]
@[simp] theorem State.push16_pc (s : State) (v : Word) : (s.push16 v).pc = s.pc := by simp [State.push16]
@[simp] theorem State.push16_i (s : State) (v : Word) : (s.push16 v).i = s.i := by simp [State.push16]
@[simp] theorem State.push16_rLo (s : State) (v : Word) : (s.push16 v).rLo = s.rLo := by simp [State.push16]
@[simp] theorem State.push16_rHi (s : State) (v : Word) : (s.push16 v).rHi = s.rHi := by simp [State.push16]
@[simp] theorem State.push16_im (s : State) (v : Word) : (s.push16 v).im = s.im := by simp [State.push16]
@[simp] theorem State.push16_iff1 (s : State) (v : Word) : (s.push16 v).iff1 = s.iff1 := by simp [State.push16]
@[simp] theorem State.push16_iff2 (s : State) (v : Word) : (s.push16 v).iff2 = s.iff2 := by simp [State.push16]
@[simp] theorem State.push16_eiPos (s : State) (v : Word) : (s.push16 v).eiPos = s.eiPos := by simp [State.push16]
@[simp] theorem State.push16_haltPos (s : State) (v : Word) : (s.push16 v).haltPos = s.haltPos := by simp [State.push16]
@[simp] theorem State.push16_halted (s : State) (v : Word) : (s.push16 v).halted = s.halted := by simp [State.push16]
@[simp] theorem State.push16_t (s : State) (v : Word) : (s.push16 v).t = s.t := by simp [State.push16]
@[simp] theorem State.push16_tTotal (s : State) (v : Word) : (s.push16 v).tTotal = s.tTotal := by simp [State.push16]
@[simp] theorem State.push16_frameCounter (s : State) (v : Word) : (s.push16 v).frameCounter = s.frameCounter := by simp [State.push16]
@[simp] theorem State.push16_rom (s : State) (v : Word) : (s.push16 v).rom = s.rom := by simp [State.push16]
@[simp] theorem State.push16_p7FFD (s : State) (v : Word) : (s.push16 v).p7FFD = s.p7FFD := by simp [State.push16]
@[simp] theorem State.push16_p1FFD (s : State) (v : Word) : (s.push16 v).p1FFD = s.p1FFD := by simp [State.push16]
@[simp] theorem State.push16_dos (s : State) (v : Word) : (s.push16 v).dos = s.dos := by simp [State.push16]
@[simp] theorem State.push16_pFE (s : State) (v : Word) : (s.push16 v).pFE = s.pFE := by simp [State.push16]
@[simp] theorem State.push16_tape (s : State) (v : Word) : (s.push16 v).tape = s.tape := by simp [State.push16]
@[simp] theorem State.push16_disks (s : State) (v : Word) : (s.push16 v).disks = s.disks := by simp [State.push16]
@[simp] theorem State.push16_drives (s : State) (v : Word) : (s.push16 v).drives = s.drives := by simp [State.push16]
@[simp] theorem State.push16_wd (s : State) (v : Word) : (s.push16 v).wd = s.wd := by simp [State.push16]
@[simp] theorem State.push16_kbd (s : State) (v : Word) : (s.push16 v).kbd = s.kbd := by simp [State.push16]
@[simp] theorem State.push16_requests (s : State) (v : Word) : (s.push16 v).requests = s.requests := by simp [State.push16]
@[simp] theorem State.push16_cfg (s : State) (v : Word) : (s.push16 v).cfg = s.cfg := by simp [State.push16]
@[simp] theorem State.push16_draws (s : State) (v : Word) : (s.push16 v).draws = s.draws := by simp [State.push16]

/-! ### `setReg` -/

@[simp] theorem State.setReg_f (s : State) (r : Reg8) (v : Byte) : (s.setReg r v).f = s.f := by cases r <;> rfl
@[simp] theorem State.setReg_aAlt (s : State) (r : Reg8) (v : Byte) : (s.setReg r v).aAlt = s.aAlt := by cases r <;> rfl
@[simp] theorem State.setReg_fAlt (s : State) (r : Reg8) (v : Byte) : (s.setReg r v).fAlt = s.fAlt := by cases r <;> rfl
@[simp] theorem State.setReg_bAlt (s : State) (r : Reg8) (v : Byte) : (s.setReg r v).bAlt = s.bAlt := by cases r <;> rfl
@[simp] theorem State.setReg_cAlt (s : State) (r : Reg8) (v : Byte) : (s.setReg r v).cAlt = s.cAlt := by cases r <;> rfl
@[simp] theorem State.setReg_dAlt (s : State) (r : Reg8) (v : Byte) : (s.setReg r v).dAlt = s.dAlt := by cases r <;> rfl
@[simp] theorem State.setReg_eAlt (s : State) (r : Reg8) (v : Byte) : (s.setReg r v).eAlt = s.eAlt := by cases r <;> rfl
@[simp] theorem State.setReg_hAlt (s : State) (r : Reg8) (v : Byte) : (s.setReg r v).hAlt = s.hAlt := by cases r <;> rfl
@[simp] theorem State.setReg_lAlt (s : State) (r : Reg8) (v : Byte) : (s.setReg r v).lAlt = s.lAlt := by cases r <;> rfl
@[simp] theorem State.setReg_ix (s : State) (r : Reg8) (v : Byte) : (s.setReg r v).ix = s.ix := by cases r <;> rfl
@[simp] theorem State.setReg_iy (s : State) (r : Reg8) (v : Byte) : (s.setReg r v).iy = s.iy := by cases r <;> rfl
@[simp] theorem State.setReg_sp (s : State) (r : Reg8) (v : Byte) : (s.setReg r v).sp = s.sp := by cases r <;> rfl
@[simp] theorem State.setReg_pc (s : State) (r : Reg8) (v : Byte) : (s.setReg r v).pc = s.pc := by cases r <;> rfl
@[simp] theorem State.setReg_i (s : State) (r : Reg8) (v : Byte) : (s.setReg r v).i = s.i := by cases r <;> rfl
@[simp] theorem State.setReg_rLo (s : State) (r : Reg8) (v : Byte) : (s.setReg r v).rLo = s.rLo := by cases r <;> rfl
@[simp] theorem State.setReg_rHi (s : State) (r : Reg8) (v : Byte) : (s.setReg r v).rHi = s.rHi := by cases r <;> rfl
@[simp] theorem State.setReg_im (s : State) (r : Reg8) (v : Byte) : (s.setReg r v).im = s.im := by cases r <;> rfl
@[simp] theorem State.setReg_iff1 (s : State) (r : Reg8) (v : Byte) : (s.setReg r v).iff1 = s.iff1 := by cases r <;> rfl
@[simp] theorem State.setReg_iff2 (s : State) (r : Reg8) (v : Byte) : (s.setReg r v).iff2 = s.iff2 := by cases r <;> rfl
@[simp] theorem State.setReg_eiPos (s : State) (r : Reg8) (v : Byte) : (s.setReg r v).eiPos = s.eiPos := by cases r <;> rfl
@[simp] theorem State.setReg_haltPos (s : State) (r : Reg8) (v : Byte) : (s.setReg r v).haltPos = s.haltPos := by cases r <;> rfl
@[simp] theorem State.setReg_halted (s : State) (r : Reg8) (v : Byte) : (s.setReg r v).halted = s.halted := by cases r <;> rfl
@[simp] theorem State.setReg_t (s : State) (r : Reg8) (v : Byte) : (s.setReg r v).t = s.t := by cases r <;> rfl
@[simp] theorem State.setReg_tTotal (s : State) (r : Reg8) (v : Byte) : (s.setReg r v).tTotal = s.tTotal := by cases r <;> rfl
@[simp] theorem State.setReg_frameCounter (s : State) (r : Reg8) (v : Byte) : (s.setReg r v).frameCounter = s.frameCounter := by cases r <;> rfl
@[simp] theorem State.setReg_ram (s : State) (r : Reg8) (v : Byte) : (s.setReg r v).ram = s.ram := by cases r <;> rfl
@[simp] theorem State.setReg_rom (s : State) (r : Reg8) (v : Byte) : (s.setReg r v).rom = s.rom := by cases r <;> rfl
@[simp] theorem State.setReg_p7FFD (s : State) (r : Reg8) (v : Byte) : (s.setReg r v).p7FFD = s.p7FFD := by cases r <;> rfl
@[simp] theorem State.setReg_p1FFD (s : State) (r : Reg8) (v : Byte) : (s.setReg r v).p1FFD = s.p1FFD := by cases r <;> rfl
@[simp] theorem State.setReg_dos (s : State) (r : Reg8) (v : Byte) : (s.setReg r v).dos = s.dos := by cases r <;> rfl
@[simp] theorem State.setReg_pFE (s : State) (r : Reg8) (v : Byte) : (s.setReg r v).pFE = s.pFE := by cases r <;> rfl
@[simp] theorem State.setReg_tape (s : State) (r : Reg8) (v : Byte) : (s.setReg r v).tape = s.tape := by cases r <;> rfl
@[simp] theorem State.setReg_disks (s : State) (r : Reg8) (v : Byte) : (s.setReg r v).disks = s.disks := by cases r <;> rfl
@[simp] theorem State.setReg_drives (s : State) (r : Reg8) (v : Byte) : (s.setReg r v).drives = s.drives := by cases r <;> rfl
@[simp] theorem State.setReg_wd (s : State) (r : Reg8) (v : Byte) : (s.setReg r v).wd = s.wd := by cases r <;> rfl
@[simp] theorem State.setReg_kbd (s : State) (r : Reg8) (v : Byte) : (s.setReg r v).kbd = s.kbd := by cases r <;> rfl
@[simp] theorem State.setReg_requests (s : State) (r : Reg8) (v : Byte) : (s.setReg r v).requests = s.requests := by cases r <;> rfl
@[simp] theorem State.setReg_cfg (s : State) (r : Reg8) (v : Byte) : (s.setReg r v).cfg = s.cfg := by cases r <;> rfl
@[simp] theorem State.setReg_draws (s : State) (r : Reg8) (v : Byte) : (s.setReg r v).draws = s.draws := by cases r <;> rfl

/-! ### `setPairSP` -/

@[simp] theorem State.setPairSP_a (s : State) (p : PairSP) (v : Word) : (s.setPairSP p v).a = s.a := by cases p <;> rfl
@[simp] theorem State.setPairSP_f (s : State) (p : PairSP) (v : Word) : (s.setPairSP p v).f = s.f := by cases p <;> rfl
@[simp] theorem State.setPairSP_aAlt (s : State) (p : PairSP) (v : Word) : (s.setPairSP p v).aAlt = s.aAlt := by cases p <;> rfl
@[simp] theorem State.setPairSP_fAlt (s : State) (p : PairSP) (v : Word) : (s.setPairSP p v).fAlt = s.fAlt := by cases p <;> rfl
@[simp] theorem State.setPairSP_bAlt (s : State) (p : PairSP) (v : Word) : (s.setPairSP p v).bAlt = s.bAlt := by cases p <;> rfl
@[simp] theorem State.setPairSP_cAlt (s : State) (p : PairSP) (v : Word) : (s.setPairSP p v).cAlt = s.cAlt := by cases p <;> rfl
@[simp] theorem State.setPairSP_dAlt (s : State) (p : PairSP) (v : Word) : (s.setPairSP p v).dAlt = s.dAlt := by cases p <;> rfl
@[simp] theorem State.setPairSP_eAlt (s : State) (p : PairSP) (v : Word) : (s.setPairSP p v).eAlt = s.eAlt := by cases p <;> rfl
@[simp] theorem State.setPairSP_hAlt (s : State) (p : PairSP) (v : Word) : (s.setPairSP p v).hAlt = s.hAlt := by cases p <;> rfl
@[simp] theorem State.setPairSP_lAlt (s : State) (p : PairSP) (v : Word) : (s.setPairSP p v).lAlt = s.lAlt := by cases p <;> rfl
@[simp] theorem State.setPairSP_ix (s : State) (p : PairSP) (v : Word) : (s.setPairSP p v).ix = s.ix := by cases p <;> rfl
@[simp] theorem State.setPairSP_iy (s : State) (p : PairSP) (v : Word) : (s.setPairSP p v).iy = s.iy := by cases p <;> rfl
@[simp] theorem State.setPairSP_pc (s : State) (p : PairSP) (v : Word) : (s.setPairSP p v).pc = s.pc := by cases p <;> rfl
@[simp] theorem State.setPairSP_i (s : State) (p : PairSP) (v : Word) : (s.setPairSP p v).i = s.i := by cases p <;> rfl
@[simp] theorem State.setPairSP_rLo (s : State) (p : PairSP) (v : Word) : (s.setPairSP p v).rLo = s.rLo := by cases p <;> rfl
@[simp] theorem State.setPairSP_rHi (s : State) (p : PairSP) (v : Word) : (s.setPairSP p v).rHi = s.rHi := by cases p <;> rfl
@[simp] theorem State.setPairSP_im (s : State) (p : PairSP) (v : Word) : (s.setPairSP p v).im = s.im := by cases p <;> rfl
@[simp] theorem State.setPairSP_iff1 (s : State) (p : PairSP) (v : Word) : (s.setPairSP p v).iff1 = s.iff1 := by cases p <;> rfl
@[simp] theorem State.setPairSP_iff2 (s : State) (p : PairSP) (v : Word) : (s.setPairSP p v).iff2 = s.iff2 := by cases p <;> rfl
@[simp] theorem State.setPairSP_eiPos (s : State) (p : PairSP) (v : Word) : (s.setPairSP p v).eiPos = s.eiPos := by cases p <;> rfl
@[simp] theorem State.setPairSP_haltPos (s : State) (p : PairSP) (v : Word) : (s.setPairSP p v).haltPos = s.haltPos := by cases p <;> rfl
@[simp] theorem State.setPairSP_halted (s : State) (p : PairSP) (v : Word) : (s.setPairSP p v).halted = s.halted := by cases p <;> rfl
@[simp] theorem State.setPairSP_t (s : State) (p : PairSP) (v : Word) : (s.setPairSP p v).t = s.t := by cases p <;> rfl
@[simp] theorem State.setPairSP_tTotal (s : State) (p : PairSP) (v : Word) : (s.setPairSP p v).tTotal = s.tTotal := by cases p <;> rfl
@[simp] theorem State.setPairSP_frameCounter (s : State) (p : PairSP) (v : Word) : (s.setPairSP p v).frameCounter = s.frameCounter := by cases p <;> rfl
@[simp] theorem State.setPairSP_ram (s : State) (p : PairSP) (v : Word) : (s.setPairSP p v).ram = s.ram := by cases p <;> rfl
@[simp] theorem State.setPairSP_rom (s : State) (p : PairSP) (v : Word) : (s.setPairSP p v).rom = s.rom := by cases p <;> rfl
@[simp] theorem State.setPairSP_p7FFD (s : State) (p : PairSP) (v : Word) : (s.setPairSP p v).p7FFD = s.p7FFD := by cases p <;> rfl
@[simp] theorem State.setPairSP_p1FFD (s : State) (p : PairSP) (v : Word) : (s.setPairSP p v).p1FFD = s.p1FFD := by cases p <;> rfl
@[simp] theorem State.setPairSP_dos (s : State) (p : PairSP) (v : Word) : (s.setPairSP p v).dos = s.dos := by cases p <;> rfl
@[simp] theorem State.setPairSP_pFE (s : State) (p : PairSP) (v : Word) : (s.setPairSP p v).pFE = s.pFE := by cases p <;> rfl
@[simp] theorem State.setPairSP_tape (s : State) (p : PairSP) (v : Word) : (s.setPairSP p v).tape = s.tape := by cases p <;> rfl
@[simp] theorem State.setPairSP_disks (s : State) (p : PairSP) (v : Word) : (s.setPairSP p v).disks = s.disks := by cases p <;> rfl
@[simp] theorem State.setPairSP_drives (s : State) (p : PairSP) (v : Word) : (s.setPairSP p v).drives = s.drives := by cases p <;> rfl
@[simp] theorem State.setPairSP_wd (s : State) (p : PairSP) (v : Word) : (s.setPairSP p v).wd = s.wd := by cases p <;> rfl
@[simp] theorem State.setPairSP_kbd (s : State) (p : PairSP) (v : Word) : (s.setPairSP p v).kbd = s.kbd := by cases p <;> rfl
@[simp] theorem State.setPairSP_requests (s : State) (p : PairSP) (v : Word) : (s.setPairSP p v).requests = s.requests := by cases p <;> rfl
@[simp] theorem State.setPairSP_cfg (s : State) (p : PairSP) (v : Word) : (s.setPairSP p v).cfg = s.cfg := by cases p <;> rfl
@[simp] theorem State.setPairSP_draws (s : State) (p : PairSP) (v : Word) : (s.setPairSP p v).draws = s.draws := by cases p <;> rfl

/-! ### `setPairAF` -/

@[simp] theorem State.setPairAF_aAlt (s : State) (p : PairAF) (v : Word) : (s.setPairAF p v).aAlt = s.aAlt := by cases p <;> rfl
@[simp] theorem State.setPairAF_fAlt (s : State) (p : PairAF) (v : Word) : (s.setPairAF p v).fAlt = s.fAlt := by cases p <;> rfl
@[simp] theorem State.setPairAF_bAlt (s : State) (p : PairAF) (v : Word) : (s.setPairAF p v).bAlt = s.bAlt := by cases p <;> rfl
@[simp] theorem State.setPairAF_cAlt (s : State) (p : PairAF) (v : Word) : (s.setPairAF p v).cAlt = s.cAlt := by cases p <;> rfl
@[simp] theorem State.setPairAF_dAlt (s : State) (p : PairAF) (v : Word) : (s.setPairAF p v).dAlt = s.dAlt := by cases p <;> rfl
@[simp] theorem State.setPairAF_eAlt (s : State) (p : PairAF) (v : Word) : (s.setPairAF p v).eAlt = s.eAlt := by cases p <;> rfl
@[simp] theorem State.setPairAF_hAlt (s : State) (p : PairAF) (v : Word) : (s.setPairAF p v).hAlt = s.hAlt := by cases p <;> rfl
@[simp] theorem State.setPairAF_lAlt (s : State) (p : PairAF) (v : Word) : (s.setPairAF p v).lAlt = s.lAlt := by cases p <;> rfl
@[simp] theorem State.setPairAF_ix (s : State) (p : PairAF) (v : Word) : (s.setPairAF p v).ix = s.ix := by cases p <;> rfl
@[simp] theorem State.setPairAF_iy (s : State) (p : PairAF) (v : Word) : (s.setPairAF p v).iy = s.iy := by cases p <;> rfl
@[simp] theorem State.setPairAF_sp (s : State) (p : PairAF) (v : Word) : (s.setPairAF p v).sp = s.sp := by cases p <;> rfl
@[simp] theorem State.setPairAF_pc (s : State) (p : PairAF) (v : Word) : (s.setPairAF p v).pc = s.pc := by cases p <;> rfl
@[simp] theorem State.setPairAF_i (s : State) (p : PairAF) (v : Word) : (s.setPairAF p v).i = s.i := by cases p <;> rfl
@[simp] theorem State.setPairAF_rLo (s : State) (p : PairAF) (v : Word) : (s.setPairAF p v).rLo = s.rLo := by cases p <;> rfl
@[simp] theorem State.setPairAF_rHi (s : State) (p : PairAF) (v : Word) : (s.setPairAF p v).rHi = s.rHi := by cases p <;> rfl
@[simp] theorem State.setPairAF_im (s : State) (p : PairAF) (v : Word) : (s.setPairAF p v).im = s.im := by cases p <;> rfl
@[simp] theorem State.setPairAF_iff1 (s : State) (p : PairAF) (v : Word) : (s.setPairAF p v).iff1 = s.iff1 := by cases p <;> rfl
@[simp] theorem State.setPairAF_iff2 (s : State) (p : PairAF) (v : Word) : (s.setPairAF p v).iff2 = s.iff2 := by cases p <;> rfl
@[simp] theorem State.setPairAF_eiPos (s : State) (p : PairAF) (v : Word) : (s.setPairAF p v).eiPos = s.eiPos := by cases p <;> rfl
@[simp] theorem State.setPairAF_haltPos (s : State) (p : PairAF) (v : Word) : (s.setPairAF p v).haltPos = s.haltPos := by cases p <;> rfl
@[simp] theorem State.setPairAF_halted (s : State) (p : PairAF) (v : Word) : (s.setPairAF p v).halted = s.halted := by cases p <;> rfl
@[simp] theorem State.setPairAF_t (s : State) (p : PairAF) (v : Word) : (s.setPairAF p v).t = s.t := by cases p <;> rfl
@[simp] theorem State.setPairAF_tTotal (s : State) (p : PairAF) (v : Word) : (s.setPairAF p v).tTotal = s.tTotal := by cases p <;> rfl
@[simp] theorem State.setPairAF_frameCounter (s : State) (p : PairAF) (v : Word) : (s.setPairAF p v).frameCounter = s.frameCounter := by cases p <;> rfl
@[simp] theorem State.setPairAF_ram (s : State) (p : PairAF) (v : Word) : (s.setPairAF p v).ram = s.ram := by cases p <;> rfl
@[simp] theorem State.setPairAF_rom (s : State) (p : PairAF) (v : Word) : (s.setPairAF p v).rom = s.rom := by cases p <;> rfl
@[simp] theorem State.setPairAF_p7FFD (s : State) (p : PairAF) (v : Word) : (s.setPairAF p v).p7FFD = s.p7FFD := by cases p <;> rfl
@[simp] theorem State.setPairAF_p1FFD (s : State) (p : PairAF) (v : Word) : (s.setPairAF p v).p1FFD = s.p1FFD := by cases p <;> rfl
@[simp] theorem State.setPairAF_dos (s : State) (p : PairAF) (v : Word) : (s.setPairAF p v).dos = s.dos := by cases p <;> rfl
@[simp] theorem State.setPairAF_pFE (s : State) (p : PairAF) (v : Word) : (s.setPairAF p v).pFE = s.pFE := by cases p <;> rfl
@[simp] theorem State.setPairAF_tape (s : State) (p : PairAF) (v : Word) : (s.setPairAF p v).tape = s.tape := by cases p <;> rfl
@[simp] theorem State.setPairAF_disks (s : State) (p : PairAF) (v : Word) : (s.setPairAF p v).disks = s.disks := by cases p <;> rfl
@[simp] theorem State.setPairAF_drives (s : State) (p : PairAF) (v : Word) : (s.setPairAF p v).drives = s.drives := by cases p <;> rfl
@[simp] theorem State.setPairAF_wd (s : State) (p : PairAF) (v : Word) : (s.setPairAF p v).wd = s.wd := by cases p <;> rfl
@[simp] theorem State.setPairAF_kbd (s : State) (p : PairAF) (v : Word) : (s.setPairAF p v).kbd = s.kbd := by cases p <;> rfl
@[simp] theorem State.setPairAF_requests (s : State) (p : PairAF) (v : Word) : (s.setPairAF p v).requests = s.requests := by cases p <;> rfl
@[simp] theorem State.setPairAF_cfg (s : State) (p : PairAF) (v : Word) : (s.setPairAF p v).cfg = s.cfg := by cases p <;> rfl
@[simp] theorem State.setPairAF_draws (s : State) (p : PairAF) (v : Word) : (s.setPairAF p v).draws = s.draws := by cases p <;> rfl

@[simp] theorem State.push16_sp (s : State) (v : Word) : (s.push16 v).sp = s.sp - 2 := by
  simp only [State.push16, State.memWrite_sp]; bv_omega

/-- A register write is read back, and no other register changes. -/
@[simp] theorem State.setReg_reg (s : State) (r r' : Reg8) (v : Byte) :
    (s.setReg r v).reg r' = if r' = r then v else s.reg r' := by
  cases r <;> cases r' <;> rfl

/-- A pair write is read back, and no other pair changes. -/
@[simp] theorem State.setPairSP_pairSP (s : State) (p p' : PairSP) (v : Word) :
    (s.setPairSP p v).pairSP p' = if p' = p then v else s.pairSP p' := by
  cases p <;> cases p' <;>
    simp [State.setPairSP, State.pairSP, State.bc, State.de, State.hl, BitVec.extractLsb'_append_extractLsb'_eq_extractLsb']

/-- A pair write is read back, and no other pair changes. -/
@[simp] theorem State.setPairAF_pairAF (s : State) (p p' : PairAF) (v : Word) :
    (s.setPairAF p v).pairAF p' = if p' = p then v else s.pairAF p' := by
  cases p <;> cases p' <;>
    simp [State.setPairAF, State.pairAF, State.af, State.bc, State.de, State.hl,
      BitVec.extractLsb'_append_extractLsb'_eq_extractLsb']

@[simp] theorem State.setBC_bc (s : State) (v : Word) : (s.setBC v).bc = v := by
  simp [State.bc, BitVec.extractLsb'_append_extractLsb'_eq_extractLsb']
@[simp] theorem State.setDE_de (s : State) (v : Word) : (s.setDE v).de = v := by
  simp [State.de, BitVec.extractLsb'_append_extractLsb'_eq_extractLsb']
@[simp] theorem State.setHL_hl (s : State) (v : Word) : (s.setHL v).hl = v := by
  simp [State.hl, BitVec.extractLsb'_append_extractLsb'_eq_extractLsb']
@[simp] theorem State.setAF_af (s : State) (v : Word) : (s.setAF v).af = v := by
  simp [State.af, BitVec.extractLsb'_append_extractLsb'_eq_extractLsb']

@[simp] theorem later_zero (time : Time) : later time 0 = time := BitVec.add_zero time

theorem later_later (time : Time) (m n : Nat) : later (later time m) n = later time (m + n) := by
  simp [later, BitVec.ofNat_add, BitVec.add_assoc]

end Sys2Proof.Machine
end

