-- ==== Sys2Proof/Laws/Memory.lean ====
section
/-! SUPPORT. Memory: reading after writing, and the canonical form that every memory operation keeps. -/

namespace Sys2Proof.Machine

/-! ### Cells -/

theorem cellGet_cellErase (m : Memory) (k k' : Nat) :
    cellGet (cellErase m k) k' = if k' = k then 0 else cellGet m k' := by
  induction m with
  | nil => simp [cellErase, cellGet]
  | cons x rest ih =>
    simp only [cellErase] at ih
    by_cases hx : x.1 = k <;> by_cases hk : k' = k <;> (simp_all [cellErase, cellGet]; try grind)

theorem cellGet_cellInsert (m : Memory) (k k' : Nat) (v : Byte) (h : ∀ x ∈ m, x.1 ≠ k) :
    cellGet (cellInsert m k v) k' = if k' = k then v else cellGet m k' := by
  induction m with
  | nil => simp only [cellInsert, cellGet]; grind
  | cons x rest ih =>
    have hx := h x (by simp)
    have ih := ih (fun y hy => h y (by simp [hy]))
    unfold cellInsert
    split <;> by_cases hk : k' = k <;> (simp_all [cellGet]; try grind)

theorem not_mem_cellErase (m : Memory) (k : Nat) : ∀ x ∈ cellErase m k, x.1 ≠ k := by
  intro x hx; simp [cellErase] at hx; exact hx.2

/-- A cell written is read back, and every other cell reads as before. -/
@[simp] theorem cellGet_cellSet (m : Memory) (k k' : Nat) (v : Byte) :
    cellGet (cellSet m k v) k' = if k' = k then v else cellGet m k' := by
  unfold cellSet
  split
  · rw [cellGet_cellErase]; simp_all
  · rw [cellGet_cellInsert _ _ _ _ (not_mem_cellErase m k), cellGet_cellErase]; simp_all

theorem cellsRise_mono {limit lo lo' : Nat} {m : Memory} (h : cellsRise limit lo m = true) (hl : lo' ≤ lo) :
    cellsRise limit lo' m = true := by
  cases m with
  | nil => rfl
  | cons x rest => simp [cellsRise] at h ⊢; exact ⟨⟨⟨by omega, h.1.1.2⟩, h.1.2⟩, h.2⟩

theorem cellsRise_cellErase {limit lo : Nat} {m : Memory} (h : cellsRise limit lo m = true) (k : Nat) :
    cellsRise limit lo (cellErase m k) = true := by
  induction m generalizing lo with
  | nil => rfl
  | cons x rest ih =>
    simp only [cellsRise, Bool.and_eq_true, decide_eq_true_eq] at h
    have := ih h.2
    simp only [cellErase] at this ⊢
    by_cases hx : x.1 = k
    · simp [hx]; exact cellsRise_mono (hx ▸ this) (by omega)
    · simp [hx, cellsRise]; exact ⟨⟨⟨h.1.1.1, h.1.1.2⟩, by simpa using h.1.2⟩, this⟩

theorem cellsRise_cellInsert {limit lo k : Nat} {m : Memory} {v : Byte} (h : cellsRise limit lo m = true) (hlo : lo ≤ k)
    (hk : k < limit) (hv : v ≠ 0) (hm : ∀ x ∈ m, x.1 ≠ k) : cellsRise limit lo (cellInsert m k v) = true := by
  induction m generalizing lo with
  | nil => simp [cellInsert, cellsRise, hlo, hk]; exact hv
  | cons x rest ih =>
    have hx := hm x (by simp)
    simp only [cellsRise, Bool.and_eq_true, decide_eq_true_eq] at h
    unfold cellInsert
    split
    · simp only [cellsRise, Bool.and_eq_true, decide_eq_true_eq]
      refine ⟨⟨⟨hlo, hk⟩, by simpa using hv⟩, ⟨⟨by omega, h.1.1.2⟩, h.1.2⟩, h.2⟩
    · simp only [cellsRise, Bool.and_eq_true, decide_eq_true_eq]
      exact ⟨h.1, ih h.2 (by omega) (fun y hy => hm y (by simp [hy]))⟩

/-- A write inside the pool keeps the canonical form. -/
theorem cellSet_wf {limit k : Nat} {m : Memory} (h : Memory.wf limit m = true) (hk : k < limit) (v : Byte) :
    Memory.wf limit (cellSet m k v) = true := by
  unfold cellSet Memory.wf
  split
  · exact cellsRise_cellErase h k
  · exact cellsRise_cellInsert (cellsRise_cellErase h k) (by omega) hk ‹_› (not_mem_cellErase m k)

theorem cellsOf_wf (limit : Nat) (cells : List Host.Cell) : Memory.wf limit (cellsOf limit cells) = true := by
  have key : ∀ (cs : List Host.Cell) (m : Memory), Memory.wf limit m = true →
      Memory.wf limit (cs.foldl (fun m x => if x.1 < limit then cellSet m x.1 x.2 else m) m) = true := by
    intro cs
    induction cs with
    | nil => intro m h; exact h
    | cons x rest ih =>
      intro m h
      refine ih _ ?_
      dsimp only
      split
      · exact cellSet_wf h ‹_› _
      · exact h
  exact key cells [] rfl

/-! ### Places -/

/-- Where an address leads depends on the paging registers only. -/
theorem State.place_congr {s t : State} (hp : t.p7FFD = s.p7FFD) (hd : t.dos = s.dos) (hc : t.cfg = s.cfg) (addr : Word) :
    t.place addr = s.place addr := by
  simp [State.place, State.romPage, hp, hd, hc]

theorem State.romPage_lt (s : State) : s.romPage < 3 := by
  unfold State.romPage; split <;> (try split) <;> (try split) <;> omega

theorem State.place_rom_lt {s : State} {addr : Word} {k : Nat} (h : s.place addr = .rom k) : k < romCells := by
  unfold State.place at h
  split at h <;> simp [cellKey] at h
  have := s.romPage_lt
  have := (addr.extractLsb' 0 14).isLt
  unfold romCells; omega

theorem State.place_ram_lt {s : State} {addr : Word} {k : Nat} (h : s.place addr = .ram k) : k < ramCells := by
  unfold State.place at h
  have := (addr.extractLsb' 0 14).isLt
  have := (s.p7FFD.extractLsb' 0 3).isLt
  unfold ramCells
  split at h <;> simp only [cellKey, Place.ram.injEq, reduceCtorEq] at h <;> omega

@[simp] theorem State.memWrite_place (s : State) (addr x : Word) (v : Byte) : (s.memWrite addr v).place x = s.place x :=
  State.place_congr (by simp) (by simp) (by simp) x

@[simp] theorem State.memWrite16_place (s : State) (addr x v : Word) : (s.memWrite16 addr v).place x = s.place x :=
  State.place_congr (by simp) (by simp) (by simp) x

@[simp] theorem State.push16_place (s : State) (x v : Word) : (s.push16 v).place x = s.place x :=
  State.place_congr (by simp) (by simp) (by simp) x

@[simp] theorem State.fetched_place (s : State) (len : Word) (m1 : BitVec 7) (n : Nat) (x : Word) :
    (s.fetched len m1 n).place x = s.place x := rfl

/-- What a read sees depends on the memories and the paging registers only. -/
theorem State.memRead_congr {s t : State} (hp : t.p7FFD = s.p7FFD) (hd : t.dos = s.dos) (hc : t.cfg = s.cfg)
    (hr : t.ram = s.ram) (ho : t.rom = s.rom) (addr : Word) : t.memRead addr = s.memRead addr := by
  simp [State.memRead, State.place_congr hp hd hc, hr, ho]

@[simp] theorem State.fetched_memRead (s : State) (len : Word) (m1 : BitVec 7) (n : Nat) (x : Word) :
    (s.fetched len m1 n).memRead x = s.memRead x := rfl

@[simp] theorem State.setReg_memRead (s : State) (r : Reg8) (v : Byte) (x : Word) :
    (s.setReg r v).memRead x = s.memRead x :=
  State.memRead_congr (by simp) (by simp) (by simp) (by simp) (by simp) x

/-! ### Reading after writing -/

/-- Every RAM cell after a write. -/
theorem State.cellGet_memWrite_ram (s : State) (addr : Word) (v : Byte) (k : Nat) :
    cellGet (s.memWrite addr v).ram k = if s.place addr = .ram k then v else cellGet s.ram k := by
  unfold State.memWrite
  split
  · simp_all
  · rename_i h
    rw [h]
    simp only [cellGet_cellSet, Place.ram.injEq]
    grind

/-- A byte read after a write: the byte written where the address leads to the same RAM cell, else as before (20_memory R127). -/
theorem State.memRead_memWrite (s : State) (addr x : Word) (v : Byte) :
    (s.memWrite addr v).memRead x = if s.place x = s.place addr ∧ (s.place addr).isRam then v else s.memRead x := by
  unfold State.memRead
  rw [State.memWrite_place]
  cases hx : s.place x with
  | rom k =>
    simp only [State.memWrite_rom]
    cases ha : s.place addr <;> simp [Place.isRam]
  | ram k =>
    simp only [State.cellGet_memWrite_ram]
    cases ha : s.place addr <;> simp [Place.isRam]
    grind

/-- A write keeps the canonical form of RAM. -/
theorem State.memWrite_wf {s : State} (h : Memory.wf ramCells s.ram = true) (addr : Word) (v : Byte) :
    Memory.wf ramCells (s.memWrite addr v).ram = true := by
  unfold State.memWrite
  split
  · exact h
  · exact cellSet_wf h (State.place_ram_lt ‹_›) v

theorem State.memWrite16_wf {s : State} (h : Memory.wf ramCells s.ram = true) (addr v : Word) :
    Memory.wf ramCells (s.memWrite16 addr v).ram = true :=
  State.memWrite_wf (State.memWrite_wf h _ _) _ _

theorem State.push16_wf {s : State} (h : Memory.wf ramCells s.ram = true) (v : Word) :
    Memory.wf ramCells (s.push16 v).ram = true := by
  let s2 := { s with sp := s.sp - 1 }.memWrite (s.sp - 1) (hiByte v)
  have h2 : Memory.wf ramCells s2.ram = true := State.memWrite_wf (s := { s with sp := s.sp - 1 }) h _ _
  exact State.memWrite_wf (s := { s2 with sp := s2.sp - 1 }) h2 _ _

/-- Storing a byte for the loader keeps the canonical form of both memories. -/
theorem State.placeByte_wf {s : State} (h : Memory.wf ramCells s.ram = true ∧ Memory.wf romCells s.rom = true) (addr : Word)
    (v : Byte) :
    Memory.wf ramCells (s.placeByte addr v).ram = true ∧ Memory.wf romCells (s.placeByte addr v).rom = true := by
  unfold State.placeByte
  split
  · exact ⟨h.1, cellSet_wf h.2 (State.place_rom_lt ‹_›) v⟩
  · exact ⟨cellSet_wf h.1 (State.place_ram_lt ‹_›) v, h.2⟩

theorem reset_ram : State.reset.ram = [] := rfl
theorem reset_rom : State.reset.rom = [] := rfl

/-- The memories of `State.reset` are in canonical form. -/
theorem reset_memory_wf : Memory.wf ramCells State.reset.ram = true ∧ Memory.wf romCells State.reset.rom = true := by
  rw [reset_ram, reset_rom]
  exact ⟨rfl, rfl⟩

end Sys2Proof.Machine
end

