-- ==== Sys2Proof/Laws/Tape.lean ====
section
/-! SUPPORT. What the tape operations can do: the Pulse Store stays, and the tape invariant is kept. -/

namespace Sys2Proof.Machine

/-- All that playing a tape can do to it. -/
structure TapeStep (tp tq : Tape) : Prop where
  pulses : tq.pulses = tp.pulses
  image : tq.image = tp.image
  blocks : tq.blocks = tp.blocks
  inv : tp.Inv → tq.Inv

theorem TapeStep.refl (tp : Tape) : TapeStep tp tp := ⟨rfl, rfl, rfl, id⟩

theorem TapeStep.trans {tp tq tr : Tape} (h : TapeStep tp tq) (k : TapeStep tq tr) : TapeStep tp tr :=
  ⟨k.pulses.trans h.pulses, k.image.trans h.image, k.blocks.trans h.blocks, fun i => k.inv (h.inv i)⟩

theorem Tape.stop_step (tp : Tape) : TapeStep tp tp.stop := by
  unfold Tape.stop
  split
  · exact .refl tp
  · rename_i p hp
    refine ⟨rfl, rfl, rfl, fun i => ⟨i.1, ?_, by simp⟩⟩
    simpa [hp] using i.2.2

theorem Tape.start_step (tp : Tape) (now : Time) : TapeStep tp (tp.start now) := by
  unfold Tape.start
  split
  · rename_i h
    simp at h
    exact ⟨rfl, rfl, rfl, fun i => ⟨i.1, i.2.1, by simpa using i.2.1⟩⟩
  · exact ⟨rfl, rfl, rfl, id⟩

theorem flip_level {b : Byte} (h : b = 0x00 ∨ b = 0xFF) : b ^^^ 0xFF = 0x00 ∨ b ^^^ 0xFF = 0xFF := by
  rcases h with h | h <;> simp [h]

/-- Catching a tape up. -/
theorem Tape.edges_step (fuel : Nat) (now : Time) (tp : Tape) : TapeStep tp (tp.edges fuel now) := by
  induction fuel generalizing tp with
  | zero => exact .refl tp
  | succ n ih =>
    have flip : TapeStep tp { tp with bit := tp.bit ^^^ 0xFF } := ⟨rfl, rfl, rfl, fun i => ⟨flip_level i.1, i.2⟩⟩
    unfold Tape.edges
    split
    · exact .refl tp
    · rename_i p hp
      split
      · exact .refl tp
      · dsimp only
        split
        · exact flip.trans (Tape.stop_step _)
        · rename_i hlt
          have adv : TapeStep tp { tp with bit := tp.bit ^^^ 0xFF, playPtr := some (p + 1) } :=
            ⟨rfl, rfl, rfl, fun i => ⟨flip_level i.1, i.2.1, by simp; omega⟩⟩
          split
          · exact adv.trans (Tape.stop_step _)
          · refine TapeStep.trans ?_ (ih _)
            exact ⟨rfl, rfl, rfl, adv.inv⟩

theorem Tape.takePulse_step (tp : Tape) : TapeStep tp tp.takePulse.2 := by
  unfold Tape.takePulse
  split
  · exact .refl tp
  · split
    · exact .refl tp
    · dsimp only
      split <;> exact ⟨rfl, rfl, rfl, fun i => ⟨i.1, i.2.1, by simp; omega⟩⟩

theorem Tape.skipLong_step (fuel : Nat) (tp : Tape) : TapeStep tp (tp.skipLong fuel).2 := by
  induction fuel generalizing tp with
  | zero => exact .refl tp
  | succ n ih =>
    have h := tp.takePulse_step
    unfold Tape.skipLong
    split
    · rename_i e; simpa [e] using h
    · rename_i e
      rw [e] at h
      split
      · exact h
      · exact h.trans (ih _)

theorem Tape.skipPilot_step (tp : Tape) : TapeStep tp tp.skipPilot.2 := by
  have h := tp.skipLong_step (tp.image.length + 1)
  unfold Tape.skipPilot
  split
  · rename_i e; simpa [e] using h
  · rename_i e
    rw [e] at h
    have k := Tape.takePulse_step (Tape.skipLong (tp.image.length + 1) tp).2
    rw [e] at k
    split
    · rename_i e2; rw [e2] at k; exact h.trans k
    · rename_i e2; rw [e2] at k; exact h.trans k

theorem Tape.decodeBits_step (masks : List Byte) (acc : Byte) (tp : Tape) : TapeStep tp (tp.decodeBits masks acc).2 := by
  induction masks generalizing acc tp with
  | nil => exact .refl tp
  | cons m rest ih =>
    have h := tp.takePulse_step
    unfold Tape.decodeBits
    split
    · rename_i e; simpa [e] using h
    · rename_i p1 tp1 e
      rw [e] at h
      have k := tp1.takePulse_step
      split
      · rename_i e2; rw [e2] at k; exact h.trans k
      · rename_i e2; rw [e2] at k; exact h.trans (k.trans (ih _ _))

theorem Tape.decodeByte_step (tp : Tape) : TapeStep tp tp.decodeByte.2 := tp.decodeBits_step _ _

theorem Tape.afterReset_inv {tp : Tape} (h : tp.Inv) : tp.afterReset.Inv := by
  have k := tp.stop_step.inv h
  exact ⟨.inl rfl, k.2.1, by simp [Tape.afterReset]⟩

theorem Tape.load_inv {tp : Tape} (h : tp.Inv) (store : PulseStore) : (tp.load store).Inv :=
  ⟨h.1, by simp [Tape.load], by simp [Tape.load]⟩

theorem Tape.seekTo_inv {tp : Tape} (h : tp.Inv) {pos : Nat} (hp : pos ≤ tp.image.length) : (tp.seekTo pos).Inv := by
  have k := tp.stop_step.inv h
  exact ⟨k.1, by simpa [Tape.seekTo, tp.stop_step.image] using hp, k.2.2⟩

/-! ### TAP files -/

/-- One turn of the cut of a TAP file. -/
theorem tapBlocksFrom_record (n : Nat) (bs rest : List Byte) (h : bs.length < 65536) :
    tapBlocksFrom (n + 1) (tapRecord bs ++ rest) = (tapBlocksFrom n rest).map (fun more => bs :: more) := by
  have hl : (mkWord (hiByte (BitVec.ofNat 16 bs.length)) (loByte (BitVec.ofNat 16 bs.length))).toNat = bs.length := by
    have e : mkWord (hiByte (BitVec.ofNat 16 bs.length)) (loByte (BitVec.ofNat 16 bs.length)) = BitVec.ofNat 16 bs.length := by
      ext k hk
      simp [BitVec.getElem_eq_testBit_toNat]
    rw [e, BitVec.toNat_ofNat, Nat.mod_eq_of_lt h]
  simp only [tapRecord, List.cons_append, tapBlocksFrom, hl]
  simp

end Sys2Proof.Machine
end

