-- ==== Sys2Proof/Laws/Kept.lean ====
section
/-! SUPPORT. What the exec part of a step and the hook can do to the machine as a whole: the parameters, the inputs, the ROM pool,
the Pulse Store and the frame count stay, time does not go back, and the invariants are kept. -/

namespace Sys2Proof.Machine

/-- All that an instruction, an interrupt entry, a halted cycle or the hook can do outside the registers. -/
structure Kept (s t : State) : Prop where
  cfg : t.cfg = s.cfg
  rom : t.rom = s.rom
  kbd : t.kbd = s.kbd
  requests : t.requests = s.requests
  tTotal : t.tTotal = s.tTotal
  frames : t.frameCounter = s.frameCounter
  time : s.t ≤ t.t
  ei : s.eiPos ≤ (s.t : Int) → t.eiPos ≤ (t.t : Int)
  tape : TapeStep s.tape t.tape
  ram : Memory.wf ramCells s.ram = true → Memory.wf ramCells t.ram = true
  disk : s.DiskInv → t.DiskInv

theorem Kept.refl (s : State) : Kept s s := ⟨rfl, rfl, rfl, rfl, rfl, rfl, Nat.le_refl _, id, .refl _, id, id⟩

theorem Kept.trans {s u t : State} (h : Kept s u) (k : Kept u t) : Kept s t :=
  ⟨k.cfg.trans h.cfg, k.rom.trans h.rom, k.kbd.trans h.kbd, k.requests.trans h.requests, k.tTotal.trans h.tTotal,
    k.frames.trans h.frames, h.time.trans k.time, fun i => k.ei (h.ei i), h.tape.trans k.tape, fun i => k.ram (h.ram i),
    fun i => k.disk (h.disk i)⟩

/-- The fields that `Kept` looks at, but for the time and the end of the interrupt hold-off. -/
def State.outside (s : State) :
    Config × Memory × List (Byte × BitVec 5) × List HostRequest × Time × Nat × Tape × Memory × Four Disk × Four Drive × Byte :=
  (s.cfg, s.rom, s.kbd, s.requests, s.tTotal, s.frameCounter, s.tape, s.ram, s.disks, s.drives, s.wd.rqs)

/-- A change of registers and time only. -/
theorem Kept.regs {s t : State} (h : t.outside = s.outside) (ht : s.t ≤ t.t) (he : s.eiPos ≤ (s.t : Int) → t.eiPos ≤ (t.t : Int)) :
    Kept s t := by
  simp only [State.outside, Prod.mk.injEq] at h
  obtain ⟨h1, h2, h3, h4, h5, h6, h7, h8, h9, h10, h11⟩ := h
  refine ⟨h1, h2, h3, h4, h5, h6, ht, he, by rw [h7]; exact .refl _, by rw [h8]; exact id, fun i => ?_⟩
  exact ⟨fun d => by rw [h9]; exact i.1 d, fun d => by rw [h10, h1]; exact i.2.1 d, by rw [h11]; exact i.2.2⟩

/-- A change of registers, `n` T-states later. -/
theorem Kept.tick {s t : State} (n : Nat) (h : t.outside = s.outside) (ht : t.t = s.t + n) (he : t.eiPos = s.eiPos) : Kept s t :=
  .regs h (by omega) (fun i => by rw [he, ht]; omega)

theorem Kept.ofWd {s t : State} (h : WdStep s t) : Kept s t := by
  have e := h.frame
  have g {α : Type} (p : State → α) : p t = p { s with disks := t.disks, drives := t.drives, wd := t.wd, draws := t.draws } :=
    congrArg p e
  exact ⟨g State.cfg, g State.rom, g State.kbd, g State.requests, g State.tTotal, g State.frameCounter, (g State.t).ge,
    fun i => by rw [g State.eiPos, g State.t]; exact i, by rw [g State.tape]; exact .refl _, by rw [g State.ram]; exact id, h.inv⟩

theorem Kept.ofTape {s : State} {tp : Tape} (h : TapeStep s.tape tp) : Kept s { s with tape := tp } :=
  ⟨rfl, rfl, rfl, rfl, rfl, rfl, Nat.le_refl _, id, h, id, fun i => ⟨i.1, i.2.1, i.2.2⟩⟩

theorem Kept.memWrite (s : State) (addr : Word) (v : Byte) : Kept s (s.memWrite addr v) := by
  refine ⟨by simp, by simp, by simp, by simp, by simp, by simp, by simp, fun i => by simpa using i, by simpa using .refl _,
    fun i => State.memWrite_wf i addr v, fun i => ?_⟩
  exact ⟨fun d => by simpa using i.1 d, fun d => by simpa using i.2.1 d, by simpa using i.2.2⟩

/-! ### Ports -/

theorem State.tapeBit_kept (s : State) : Kept s s.tapeBit.2 := .ofTape (Tape.edges_step _ _ _)

theorem State.autostart_kept (s : State) : Kept s s.autostart := by
  unfold State.autostart
  split
  · exact .ofTape (Tape.start_step _ _)
  · exact .refl s

theorem State.readFE_kept (s : State) (p : Word) : Kept s (s.readFE p).2 := s.autostart_kept.trans (State.tapeBit_kept _)

theorem State.portRead_kept (s : State) (p : Word) : Kept s (s.portRead p).2 := by
  unfold State.portRead
  split
  · exact .ofWd (s.wdProcess_step.trans (State.wdReadReg_step _ _))
  · split
    · exact s.readFE_kept p
    · exact .refl s

theorem State.portWrite_kept (s : State) (p : Word) (v : Byte) : Kept s (s.portWrite p v) := by
  unfold State.portWrite
  split
  · exact .ofWd (s.wdProcess_step.trans ((State.wdWriteReg_step _ _ _).trans (State.wdProcess_step _)))
  · split
    · exact .regs rfl (Nat.le_refl _) id
    · split
      · unfold State.write7FFD
        split
        · exact .refl s
        · exact .regs rfl (Nat.le_refl _) id
      · split
        · exact .regs rfl (Nat.le_refl _) id
        · exact .refl s

/-- A port read changes the tape, the disk system and the counter of free values only. -/
theorem State.portRead_frame (s : State) (p : Word) :
    (s.portRead p).2 = { s with
      tape := (s.portRead p).2.tape
      disks := (s.portRead p).2.disks
      drives := (s.portRead p).2.drives
      wd := (s.portRead p).2.wd
      draws := (s.portRead p).2.draws } := by
  unfold State.portRead
  split
  · have h := (s.wdProcess_step.trans (State.wdReadReg_step s.wdProcess (loByte p))).frame
    generalize (s.wdProcess.wdReadReg (loByte p)).2 = u at h ⊢
    rw [h]
  · split
    · unfold State.readFE State.tapeBit State.autostart
      dsimp only
      split <;> rfl
    · rfl

/-- A port write changes the port latches, the paging latches, the disk system and the counter of free values only. -/
theorem State.portWrite_frame (s : State) (p : Word) (v : Byte) :
    s.portWrite p v = { s with
      pFE := (s.portWrite p v).pFE
      p7FFD := (s.portWrite p v).p7FFD
      p1FFD := (s.portWrite p v).p1FFD
      disks := (s.portWrite p v).disks
      drives := (s.portWrite p v).drives
      wd := (s.portWrite p v).wd
      draws := (s.portWrite p v).draws } := by
  unfold State.portWrite
  split
  · have h := (s.wdProcess_step.trans ((State.wdWriteReg_step s.wdProcess (loByte p) v).trans (State.wdProcess_step _))).frame
    generalize (s.wdProcess.wdWriteReg (loByte p) v).wdProcess = u at h ⊢
    rw [h]
  · split
    · rfl
    · split
      · unfold State.write7FFD; split <;> rfl
      · split <;> rfl

theorem State.portRead_eiPos (s : State) (p : Word) : (s.portRead p).2.eiPos = s.eiPos := by rw [s.portRead_frame p]
theorem State.portWrite_eiPos (s : State) (p : Word) (v : Byte) : (s.portWrite p v).eiPos = s.eiPos := by
  rw [s.portWrite_frame p v]

/-- The time after a port access is set from the time before it. -/
theorem Kept.retime {s t : State} {k n : Nat} (h : Kept { s with t := s.t + k } t) (he : t.eiPos = s.eiPos) :
    Kept s { t with t := s.t + n } :=
  ⟨h.cfg, h.rom, h.kbd, h.requests, h.tTotal, h.frames, Nat.le_add_right _ _, fun i => by dsimp only; rw [he]; omega, h.tape,
    h.ram, h.disk⟩

theorem State.portReadAt_kept (s : State) (p : Word) (delay total : Nat) : Kept s (s.portReadAt p delay total).2 :=
  Kept.retime (State.portRead_kept _ _) (State.portRead_eiPos _ _)

theorem State.portWriteAt_kept (s : State) (p : Word) (v : Byte) (delay total : Nat) :
    Kept s (s.portWriteAt p v delay total) :=
  Kept.retime (State.portWrite_kept _ _ _) (State.portWrite_eiPos _ _ _)

/-! ### Shared operations of the instructions -/

theorem Kept.fetched (s : State) (len : Word) (m1 : BitVec 7) (n : Nat) : Kept s (s.fetched len m1 n) := .tick n rfl rfl rfl

theorem Kept.setReg (s : State) (r : Reg8) (v : Byte) : Kept s (s.setReg r v) := by
  cases r <;> exact .tick 0 rfl rfl rfl
theorem Kept.setRegIX (s : State) (r : RegXY) (v : Byte) : Kept s (s.setRegIX r v) := by
  cases r <;> exact .tick 0 rfl rfl rfl
theorem Kept.setRegIY (s : State) (r : RegXY) (v : Byte) : Kept s (s.setRegIY r v) := by
  cases r <;> exact .tick 0 rfl rfl rfl
theorem Kept.setPairSP (s : State) (p : PairSP) (v : Word) : Kept s (s.setPairSP p v) := by
  cases p <;> exact .tick 0 rfl rfl rfl
theorem Kept.setPairAF (s : State) (p : PairAF) (v : Word) : Kept s (s.setPairAF p v) := by
  cases p <;> exact .tick 0 rfl rfl rfl
theorem Kept.memWrite16 (s : State) (addr v : Word) : Kept s (s.memWrite16 addr v) :=
  (Kept.memWrite _ _ _).trans (Kept.memWrite _ _ _)
theorem Kept.push16 (s : State) (v : Word) : Kept s (s.push16 v) := by
  let s1 := { s with sp := s.sp - 1 }
  let s2 := s1.memWrite s1.sp (hiByte v)
  let s3 := { s2 with sp := s2.sp - 1 }
  have h1 : Kept s s1 := .tick 0 rfl rfl rfl
  have h2 : Kept s1 s2 := .memWrite _ _ _
  have h3 : Kept s2 s3 := .tick 0 rfl rfl rfl
  have h4 : Kept s3 (s3.memWrite s3.sp (loByte v)) := .memWrite _ _ _
  exact h1.trans (h2.trans (h3.trans h4))
theorem Kept.repeatBlock (s : State) (again : Bool) : Kept s (s.repeatBlock again) := by
  cases again
  · exact .refl s
  · exact .tick 5 rfl rfl rfl

end Sys2Proof.Machine
end

