-- ==== Sys2Proof/Laws/Boundary.lean ====
section
/-! SUPPORT. What the boundary can do: the hook, the frame wrap, the host requests; and what the exec part of a step other than an
instruction can do. -/

namespace Sys2Proof.Machine

/-! ### Interrupt entry, halted cycle, DOS-mode update -/

theorem State.dosUpdate_kept (s : State) : Kept s s.dosUpdate := by
  unfold State.dosUpdate
  split
  · exact .tick 0 rfl rfl rfl
  · split
    · exact .tick 0 rfl rfl rfl
    · exact .refl s

theorem State.haltedCycle_kept (s : State) : Kept s s.haltedCycle := .tick 4 rfl rfl rfl

theorem State.intRestart_kept (s : State) (target : Word) : Kept s (s.intRestart target) := by
  have h1 : Kept s s.intCommon := .tick 0 rfl rfl rfl
  have h2 := Kept.push16 s.intCommon s.intCommon.pc
  exact (h1.trans h2).trans (.tick 13 rfl rfl rfl)

theorem State.intVector_kept (s : State) : Kept s s.intVector := by
  have h1 : Kept s s.intCommon := .tick 0 rfl rfl rfl
  have h2 := Kept.push16 s.intCommon s.intCommon.pc
  exact (h1.trans h2).trans (.tick 19 rfl rfl rfl)

theorem State.enterInt_kept {s t : State} (h : s.enterInt = .next t) : Kept s t := by
  unfold State.enterInt at h
  split at h
  · split at h
    · obtain rfl := Host.Outcome.next.inj h; exact s.intRestart_kept _
    · cases h
  · obtain rfl := Host.Outcome.next.inj h; exact s.intRestart_kept _
  · obtain rfl := Host.Outcome.next.inj h; exact s.intVector_kept

/-! ### The hook -/

theorem State.trapByte_kept (s : State) : Kept s s.trapByte.2 := by
  have h := s.tape.decodeByte_step
  unfold State.trapByte
  split
  · rename_i tp e; rw [e] at h; exact .ofTape h
  · rename_i v tp e
    rw [e] at h
    exact (Kept.ofTape (s := s) h).trans (.tick 0 rfl rfl rfl)

theorem State.trapData_kept (n : Nat) (s : State) : Kept s (State.trapData n s).2 := by
  induction n generalizing s with
  | zero => exact .refl s
  | succ k ih =>
    have h := s.tape.decodeByte_step
    unfold State.trapData
    split
    · rename_i tp e; rw [e] at h; exact .ofTape h
    · rename_i v tp e
      rw [e] at h
      have h1 : Kept s { s with tape := tp, l := v } := (Kept.ofTape (s := s) h).trans (.tick 0 rfl rfl rfl)
      have h2 := Kept.memWrite { s with tape := tp, l := v } s.ix v
      dsimp only
      refine Kept.trans ?_ (ih _)
      exact (h1.trans h2).trans (.tick 0 rfl rfl rfl)

theorem State.trapRun_kept (s : State) : Kept s s.trapRun.2 := by
  have h := s.tape.skipPilot_step
  unfold State.trapRun
  split
  · rename_i tp e; rw [e] at h; exact .ofTape h
  · rename_i tp e
    rw [e] at h
    have h0 : Kept s { s with tape := tp } := .ofTape h
    have h1 := State.trapByte_kept { s with tape := tp }
    split
    · rename_i s1 e1; rw [e1] at h1; exact h0.trans h1
    · rename_i s1 e1
      rw [e1] at h1
      have h2 := State.trapData_kept ((s1.de - 1).toNat + 1) s1
      split
      · rename_i s2 e2; rw [e2] at h2; exact (h0.trans h1).trans h2
      · rename_i s2 e2; rw [e2] at h2; exact ((h0.trans h1).trans h2).trans s2.trapByte_kept

theorem State.trapSucceed_kept (s : State) : Kept s s.trapSucceed := by
  refine (Kept.ofTape (s := s) (tp := { s.tape with edgeChange := s.now }) ⟨rfl, rfl, rfl, fun i => i⟩).trans ?_
  exact .tick 0 rfl rfl rfl

theorem State.trapFail_kept (s : State) : Kept s s.trapFail :=
  (Kept.ofTape (s := s) (Tape.stop_step _)).trans (.tick 0 rfl rfl rfl)

theorem State.tapeTrap_kept (s : State) : Kept s s.tapeTrap := by
  have h := s.trapRun_kept
  unfold State.tapeTrap
  split
  · split
    · rename_i s1 e; rw [e] at h; exact h.trans s1.trapSucceed_kept
    · rename_i s1 e; rw [e] at h; exact h.trans s1.trapFail_kept
  · exact .refl s

theorem State.edgePoll_kept (fuel : Nat) (p : EdgePattern) (s : State) : Kept s (State.edgePoll fuel p s) := by
  induction fuel generalizing s with
  | zero => exact .refl s
  | succ n ih =>
    unfold State.edgePoll
    split
    · exact .refl s
    · dsimp only
      split
      · exact s.tapeBit_kept
      · refine (s.tapeBit_kept.trans ?_).trans (ih _)
        exact .tick p.cycles rfl rfl rfl

theorem State.accelerate_kept (s : State) : Kept s s.accelerate := by
  unfold State.accelerate
  split
  · split
    · exact .tick _ rfl rfl rfl
    · split
      · exact .tick _ rfl rfl rfl
      · split
        · exact .tick _ rfl rfl rfl
        · split
          · exact State.edgePoll_kept _ _ _
          · exact .refl s
  · exact .refl s

theorem State.putByte_kept (s : State) (v : Byte) : Kept s (s.putByte v) :=
  (Kept.memWrite s s.hl v).trans (.tick 0 rfl rfl rfl)

theorem State.bulkRead_kept (n : Nat) (s : State) : Kept s (State.bulkRead n s) := by
  induction n generalizing s with
  | zero => exact .refl s
  | succ k ih =>
    unfold State.bulkRead
    dsimp only
    refine Kept.trans ?_ (ih _)
    split
    · exact (s.putByte_kept _).trans (.tick 0 rfl rfl rfl)
    · exact ((s.putByte_kept _).trans (.tick 0 rfl rfl rfl)).trans (.tick 0 rfl rfl rfl)

theorem State.wdBulkRead_kept (s : State) : Kept s s.wdBulkRead := by
  unfold State.wdBulkRead
  dsimp only
  split
  · exact State.bulkRead_kept _ _
  · refine Kept.trans ?_ (State.bulkRead_kept _ _)
    refine (s.putByte_kept s.wd.data).trans ?_
    exact .ofWd (.wd fun h => rqs_and h)

theorem State.bulkWrite_kept (n : Nat) (s : State) : Kept s (State.bulkWrite n s) := by
  induction n generalizing s with
  | zero => exact .refl s
  | succ k ih =>
    unfold State.bulkWrite
    dsimp only
    refine Kept.trans ?_ (ih _)
    exact (Kept.ofWd (State.trkWrite_step _ _ _ _)).trans (.tick 0 rfl rfl rfl)

theorem State.diskTrap_kept (s : State) : Kept s s.diskTrap := by
  unfold State.diskTrap
  split
  · split
    · exact .tick 0 rfl rfl rfl
    · split
      · exact .tick 0 rfl rfl rfl
      · split
        · exact .tick 0 rfl rfl rfl
        · split
          · exact s.wdBulkRead_kept.trans (.tick 0 rfl rfl rfl)
          · split
            · exact (State.bulkWrite_kept _ _).trans (.tick 0 rfl rfl rfl)
            · exact .refl s
  · exact .refl s

/-- What the hook can do. -/
theorem State.hook_kept (s : State) : Kept s s.hook :=
  s.tapeTrap_kept.trans ((State.accelerate_kept _).trans (State.diskTrap_kept _))

/-! ### The frame wrap -/

theorem State.crossFrameTimes_eq (n : Nat) (s : State) :
    s.crossFrameTimes n = { s with
      tTotal := later s.tTotal (n * s.cfg.frameLen)
      t := s.t - n * s.cfg.frameLen
      eiPos := s.eiPos - n * s.cfg.frameLen
      frameCounter := s.frameCounter + n } := by
  induction n generalizing s with
  | zero => simp [State.crossFrameTimes]
  | succ k ih =>
    simp only [State.crossFrameTimes, ih, State.crossFrame]
    have h1 : (k + 1) * s.cfg.frameLen = k * s.cfg.frameLen + s.cfg.frameLen := Nat.succ_mul _ _
    rw [later_later, h1, Nat.add_comm (k * _)]
    congr 1
    · omega
    · omega
    · omega

/-- The frame wrap in one update. -/
theorem State.wrapFrames_eq (s : State) :
    s.wrapFrames = { s with
      tTotal := later s.tTotal (s.t / s.cfg.frameLen * s.cfg.frameLen)
      t := s.t % s.cfg.frameLen
      eiPos := s.eiPos - ((s.t / s.cfg.frameLen : Nat) : Int) * s.cfg.frameLen
      frameCounter := s.frameCounter + s.t / s.cfg.frameLen } := by
  rw [State.wrapFrames, State.crossFrameTimes_eq]
  congr 1
  have := Nat.div_add_mod s.t s.cfg.frameLen
  rw [Nat.mul_comm] at this
  omega

/-! ### Host requests -/

/-- What a host request can do: the parameters, the ROM pool and the requests still pending stay, and each invariant is kept. -/
structure Asked (s t : State) : Prop where
  cfg : t.cfg = s.cfg
  rom : t.rom = s.rom
  requests : t.requests = s.requests
  clock : s.tTotal = BitVec.ofNat 64 (s.frameCounter * s.cfg.frameLen) ∧ s.eiPos ≤ (s.t : Int) →
    t.tTotal = BitVec.ofNat 64 (t.frameCounter * t.cfg.frameLen) ∧ t.eiPos ≤ (t.t : Int)
  tape : s.tape.Inv → t.tape.Inv
  ram : Memory.wf ramCells s.ram = true → Memory.wf ramCells t.ram = true
  disk : s.DiskInv → t.DiskInv

theorem Asked.refl (s : State) : Asked s s := ⟨rfl, rfl, rfl, id, id, id, id⟩

theorem Asked.trans {s u t : State} (h : Asked s u) (k : Asked u t) : Asked s t :=
  ⟨k.cfg.trans h.cfg, k.rom.trans h.rom, k.requests.trans h.requests, fun i => k.clock (h.clock i), fun i => k.tape (h.tape i),
    fun i => k.ram (h.ram i), fun i => k.disk (h.disk i)⟩

theorem State.setTape_asked {s : State} {tp : Tape} (h : s.tape.Inv → tp.Inv) : Asked s { s with tape := tp } :=
  ⟨rfl, rfl, rfl, id, h, id, id⟩

theorem State.setDisk_asked {s : State} {d : BitVec 2} {dk : Disk} (h : dk.wf = true) :
    Asked s { s with disks := s.disks.set d dk } :=
  ⟨rfl, rfl, rfl, id, id, id, fun i => ⟨fun d' => by
    simp only [Four.get_set]; split
    · exact h
    · exact i.1 d', i.2⟩⟩

theorem State.perform_asked {s t : State} {r : HostRequest} (h : s.perform r = .next t) : Asked s t := by
  cases r <;> simp only [State.perform] at h
  case reset =>
    obtain rfl := Host.Outcome.next.inj h
    refine ⟨rfl, rfl, rfl, fun _ => ⟨by simp [State.hardReset], by simp [State.hardReset]⟩, fun i => Tape.afterReset_inv i, id,
      fun i => ⟨i.1, fun d => ?_, by simp [State.hardReset, wdReset]⟩⟩
    have := i.2.1 d
    revert d; simp only [State.hardReset, Four.get, Drive.motorOff]; intro d
    fin_cases d <;> exact id
  case startTape => obtain rfl := Host.Outcome.next.inj h; exact State.setTape_asked (Tape.start_step _ _).inv
  case stopTape => obtain rfl := Host.Outcome.next.inj h; exact State.setTape_asked (Tape.stop_step _).inv
  case seekTape pos =>
    split at h
    · obtain rfl := Host.Outcome.next.inj h; exact State.setTape_asked fun i => Tape.seekTo_inv i ‹_›
    · cases h
  case loadTape store =>
    split at h
    · obtain rfl := Host.Outcome.next.inj h; exact State.setTape_asked fun i => Tape.load_inv i store
    · cases h
  case loadDisk d store =>
    split at h
    · cases h
    · rename_i hw
      split at h
      · cases h
      · obtain rfl := Host.Outcome.next.inj h
        have hw : store.wf = true := by simpa using hw
        exact State.setDisk_asked (dk := { store with present := true }) hw
  case ejectDisk d =>
    split at h
    · cases h
    · obtain rfl := Host.Outcome.next.inj h
      exact State.setDisk_asked (by decide)
  case loadSnapshot snap =>
    obtain rfl := Host.Outcome.next.inj h
    exact ⟨rfl, rfl, rfl, fun i => ⟨i.1, by simp [State.loadSnapshot]⟩, id, fun _ => cellsOf_wf _ _, id⟩
  case keyboard rows => obtain rfl := Host.Outcome.next.inj h; exact ⟨rfl, rfl, rfl, id, id, id, id⟩

theorem andThen_next {r : Result} {g : State → Result} {t : State} (h : andThen r g = .next t) :
    ∃ u, r = .next u ∧ g u = .next t := by
  cases r with
  | next u => exact ⟨u, rfl, h⟩
  | fault e => cases h
  | refused e => cases h

theorem State.performAll_asked {rs : List HostRequest} {s t : State} (h : s.performAll rs = .next t) : Asked s t := by
  induction rs generalizing s with
  | nil => obtain rfl := Host.Outcome.next.inj h; exact .refl s
  | cons r rest ih =>
    obtain ⟨u, h1, h2⟩ := andThen_next h
    exact (State.perform_asked h1).trans (ih h2)

/-- What the host requests of a boundary can do. -/
theorem State.takeRequests_asked {s t : State} (h : s.takeRequests = .next t) : Asked { s with requests := [] } t :=
  State.performAll_asked h

theorem boundary_cases {s t : State} (h : boundary s = .next t) : ∃ u, s.takeRequests = .next u ∧ t = u.hook.wrapFrames := by
  obtain ⟨u, h1, h2⟩ := andThen_next h
  exact ⟨u, h1, (Host.Outcome.next.inj h2).symm⟩

/-! ### The launch boundary -/

/-- A launch with nothing for the boundary to do: no request, no tape playing, DOS mode off, `t` inside the frame. -/
theorem launch_idle {s : State} (hq : s.Quiet) (ht : s.tape.playPtr = none) (hd : s.dos = false) (hf : s.t < s.cfg.frameLen) :
    launch s = .next s := by
  have e : { s with requests := [] } = s := by rw [← hq]
  have hk : s.hook = s := by
    simp [State.hook, State.tapeTrap, State.accelerate, State.diskTrap, ht, hd]
  have hr : s.takeRequests = .next s := by rw [State.takeRequests, e, hq]; rfl
  rw [launch, boundary, hr]
  simp [andThen, hk, State.wrapFrames, Nat.div_eq_of_lt hf, State.crossFrameTimes]

end Sys2Proof.Machine
end

