-- ==== Sys2Proof/Laws/Exec.lean ====
section
/-! SUPPORT. What an instruction can do to the machine as a whole: one lemma per meaning, and `exec_kept` over all of them. -/

namespace Sys2Proof.Machine

theorem Kept.incReg (s : State) (r : Reg8) : Kept s (s.incReg r) := by cases r <;> exact .tick 0 rfl rfl rfl
theorem Kept.decReg (s : State) (r : Reg8) : Kept s (s.decReg r) := by cases r <;> exact .tick 0 rfl rfl rfl
theorem Kept.incMem (s : State) (addr : Word) : Kept s (s.incMem addr) := by
  unfold State.incMem; refine Kept.trans ?_ (.memWrite _ _ _); exact .tick 0 rfl rfl rfl
theorem Kept.decMem (s : State) (addr : Word) : Kept s (s.decMem addr) := by
  unfold State.decMem; refine Kept.trans ?_ (.memWrite _ _ _); exact .tick 0 rfl rfl rfl
theorem Kept.shiftReg (s : State) (sh : Byte → Bool → Byte × Bool) (r : Reg8) : Kept s (s.shiftReg sh r) := by
  cases r <;> exact .tick 0 rfl rfl rfl
theorem Kept.shiftMem (s : State) (sh : Byte → Bool → Byte × Bool) (addr : Word) : Kept s (s.shiftMem sh addr) := by
  unfold State.shiftMem; refine Kept.trans ?_ (.memWrite _ _ _); exact .tick 0 rfl rfl rfl
theorem Kept.shiftMemReg (s : State) (sh : Byte → Bool → Byte × Bool) (addr : Word) (r : Reg8) :
    Kept s (s.shiftMemReg sh addr r) := (Kept.shiftMem s sh addr).trans (.setReg _ _ _)
theorem Kept.modifyMem (s : State) (g : Byte → Byte) (addr : Word) : Kept s (s.modifyMem g addr) := .memWrite _ _ _
theorem Kept.modifyMemReg (s : State) (g : Byte → Byte) (addr : Word) (r : Reg8) : Kept s (s.modifyMemReg g addr r) :=
  (Kept.modifyMem s g addr).trans (.setReg _ _ _)
theorem Kept.digit (s : State) (low acc : Byte) : Kept s (s.digit low acc) := by
  unfold State.digit; refine Kept.trans ?_ (.memWrite _ _ _); exact .tick 0 rfl rfl rfl
theorem Kept.putTop (s : State) (v : Word) : Kept s (s.putTop v) := by
  unfold State.putTop; exact (Kept.memWrite _ _ _).trans (.memWrite _ _ _)
theorem Kept.call (s : State) (target : Word) : Kept s (s.call target) := (Kept.push16 s s.pc).trans (.tick 0 rfl rfl rfl)
theorem Kept.blockMove (s : State) (by1 : Word) : Kept s (s.blockMove by1) :=
  (Kept.memWrite s s.de (s.memRead s.hl)).trans (.tick 0 rfl rfl rfl)
theorem Kept.blockIn (s : State) (by1 : Word) : Kept s (s.blockIn by1) := by
  have h : Kept s ((s.portReadAt s.bc ioDelayBlockIn 16).2.memWrite (s.portReadAt s.bc ioDelayBlockIn 16).2.hl
      (s.portReadAt s.bc ioDelayBlockIn 16).1) := (s.portReadAt_kept _ _ _).trans (.memWrite _ _ _)
  refine h.trans (.tick 0 ?_ ?_ ?_) <;> simp [State.blockIn, State.outside]
theorem Kept.blockOut (s : State) (by1 : Word) : Kept s (s.blockOut by1) := by
  have h1 : Kept s { s with b := s.b - 1 } := .tick 0 rfl rfl rfl
  have h2 := State.portWriteAt_kept { s with b := s.b - 1 } (State.bc { s with b := s.b - 1 }) (s.memRead s.hl) ioDelayBlockOut 16
  refine (h1.trans h2).trans (.tick 0 ?_ ?_ ?_) <;> simp [State.blockOut, State.outside]
theorem Kept.jumpIf (s : State) (c : Bool) (e : Byte) : Kept s (s.jumpIf c e) := by
  cases c
  · exact .refl s
  · exact .tick 5 rfl rfl rfl

theorem Kept.ite {s t u : State} {c : Prop} [Decidable c] (ht : Kept s t) (hu : Kept s u) : Kept s (if c then t else u) := by
  split <;> assumption

/-- `EI` and an overridden prefix: the end of the hold-off is the time after the instruction. -/
theorem Kept.holdOff {s t : State} (h : t.outside = s.outside) (ht : s.t ≤ t.t) (he : t.eiPos = (t.t : Int)) : Kept s t :=
  .regs h ht (fun _ => he.le)

theorem execLdRR_kept {dst : Reg8} {src : Reg8} {s t : State} (h : execLdRR dst src s = .next t) : Kept s t := by
  obtain rfl := Host.Outcome.next.inj h
  exact (Kept.fetched s _ _ _).trans (.setReg _ _ _)

theorem execLdRN_kept {r : Reg8} {n : Byte} {s t : State} (h : execLdRN r n s = .next t) : Kept s t := by
  obtain rfl := Host.Outcome.next.inj h
  exact (Kept.fetched s _ _ _).trans (.setReg _ _ _)

theorem execLdRIndHL_kept {r : Reg8} {s t : State} (h : execLdRIndHL r s = .next t) : Kept s t := by
  obtain rfl := Host.Outcome.next.inj h
  exact (Kept.fetched s _ _ _).trans (.setReg _ _ _)

theorem execLdRIndIXd_kept {r : Reg8} {d : Byte} {s t : State} (h : execLdRIndIXd r d s = .next t) : Kept s t := by
  obtain rfl := Host.Outcome.next.inj h
  exact (Kept.fetched s _ _ _).trans (.setReg _ _ _)

theorem execLdRIndIYd_kept {r : Reg8} {d : Byte} {s t : State} (h : execLdRIndIYd r d s = .next t) : Kept s t := by
  obtain rfl := Host.Outcome.next.inj h
  exact (Kept.fetched s _ _ _).trans (.setReg _ _ _)

theorem execLdIndHLR_kept {r : Reg8} {s t : State} (h : execLdIndHLR r s = .next t) : Kept s t := by
  obtain rfl := Host.Outcome.next.inj h
  exact (Kept.fetched s _ _ _).trans (.memWrite _ _ _)

theorem execLdIndIXdR_kept {d : Byte} {r : Reg8} {s t : State} (h : execLdIndIXdR d r s = .next t) : Kept s t := by
  obtain rfl := Host.Outcome.next.inj h
  exact (Kept.fetched s _ _ _).trans (.memWrite _ _ _)

theorem execLdIndIYdR_kept {d : Byte} {r : Reg8} {s t : State} (h : execLdIndIYdR d r s = .next t) : Kept s t := by
  obtain rfl := Host.Outcome.next.inj h
  exact (Kept.fetched s _ _ _).trans (.memWrite _ _ _)

theorem execLdIndHLN_kept {n : Byte} {s t : State} (h : execLdIndHLN n s = .next t) : Kept s t := by
  obtain rfl := Host.Outcome.next.inj h
  exact (Kept.fetched s _ _ _).trans (.memWrite _ _ _)

theorem execLdIndIXdN_kept {d : Byte} {n : Byte} {s t : State} (h : execLdIndIXdN d n s = .next t) : Kept s t := by
  obtain rfl := Host.Outcome.next.inj h
  exact (Kept.fetched s _ _ _).trans (.memWrite _ _ _)

theorem execLdIndIYdN_kept {d : Byte} {n : Byte} {s t : State} (h : execLdIndIYdN d n s = .next t) : Kept s t := by
  obtain rfl := Host.Outcome.next.inj h
  exact (Kept.fetched s _ _ _).trans (.memWrite _ _ _)

theorem execLdAIndBC_kept {s t : State} (h : execLdAIndBC s = .next t) : Kept s t := by
  obtain rfl := Host.Outcome.next.inj h
  exact .tick _ rfl rfl rfl

theorem execLdAIndDE_kept {s t : State} (h : execLdAIndDE s = .next t) : Kept s t := by
  obtain rfl := Host.Outcome.next.inj h
  exact .tick _ rfl rfl rfl

theorem execLdAIndNn_kept {nn : Word} {s t : State} (h : execLdAIndNn nn s = .next t) : Kept s t := by
  obtain rfl := Host.Outcome.next.inj h
  exact .tick _ rfl rfl rfl

theorem execLdIndBCA_kept {s t : State} (h : execLdIndBCA s = .next t) : Kept s t := by
  obtain rfl := Host.Outcome.next.inj h
  exact (Kept.fetched s _ _ _).trans (.memWrite _ _ _)

theorem execLdIndDEA_kept {s t : State} (h : execLdIndDEA s = .next t) : Kept s t := by
  obtain rfl := Host.Outcome.next.inj h
  exact (Kept.fetched s _ _ _).trans (.memWrite _ _ _)

theorem execLdIndNnA_kept {nn : Word} {s t : State} (h : execLdIndNnA nn s = .next t) : Kept s t := by
  obtain rfl := Host.Outcome.next.inj h
  exact (Kept.fetched s _ _ _).trans (.memWrite _ _ _)

theorem execLdAI_kept {s t : State} (h : execLdAI s = .next t) : Kept s t := by
  obtain rfl := Host.Outcome.next.inj h
  exact .tick _ rfl rfl rfl

theorem execLdAR_kept {s t : State} (h : execLdAR s = .next t) : Kept s t := by
  obtain rfl := Host.Outcome.next.inj h
  exact .tick _ rfl rfl rfl

theorem execLdIA_kept {s t : State} (h : execLdIA s = .next t) : Kept s t := by
  obtain rfl := Host.Outcome.next.inj h
  exact .tick _ rfl rfl rfl

theorem execLdRA_kept {s t : State} (h : execLdRA s = .next t) : Kept s t := by
  obtain rfl := Host.Outcome.next.inj h
  exact .tick _ rfl rfl rfl

theorem execLdDdNn_kept {dd : PairSP} {nn : Word} {s t : State} (h : execLdDdNn dd nn s = .next t) : Kept s t := by
  obtain rfl := Host.Outcome.next.inj h
  exact (Kept.fetched s _ _ _).trans (.setPairSP _ _ _)

theorem execLdIXNn_kept {nn : Word} {s t : State} (h : execLdIXNn nn s = .next t) : Kept s t := by
  obtain rfl := Host.Outcome.next.inj h
  exact .tick _ rfl rfl rfl

theorem execLdIYNn_kept {nn : Word} {s t : State} (h : execLdIYNn nn s = .next t) : Kept s t := by
  obtain rfl := Host.Outcome.next.inj h
  exact .tick _ rfl rfl rfl

theorem execLdHLIndNn_kept {nn : Word} {s t : State} (h : execLdHLIndNn nn s = .next t) : Kept s t := by
  obtain rfl := Host.Outcome.next.inj h
  exact .tick _ rfl rfl rfl

theorem execLdDdIndNn_kept {dd : PairSP} {nn : Word} {s t : State} (h : execLdDdIndNn dd nn s = .next t) : Kept s t := by
  obtain rfl := Host.Outcome.next.inj h
  exact (Kept.fetched s _ _ _).trans (.setPairSP _ _ _)

theorem execLdIXIndNn_kept {nn : Word} {s t : State} (h : execLdIXIndNn nn s = .next t) : Kept s t := by
  obtain rfl := Host.Outcome.next.inj h
  exact .tick _ rfl rfl rfl

theorem execLdIYIndNn_kept {nn : Word} {s t : State} (h : execLdIYIndNn nn s = .next t) : Kept s t := by
  obtain rfl := Host.Outcome.next.inj h
  exact .tick _ rfl rfl rfl

theorem execLdIndNnHL_kept {nn : Word} {s t : State} (h : execLdIndNnHL nn s = .next t) : Kept s t := by
  obtain rfl := Host.Outcome.next.inj h
  exact (Kept.fetched s _ _ _).trans (.memWrite16 _ _ _)

theorem execLdIndNnDd_kept {nn : Word} {dd : PairSP} {s t : State} (h : execLdIndNnDd nn dd s = .next t) : Kept s t := by
  obtain rfl := Host.Outcome.next.inj h
  exact (Kept.fetched s _ _ _).trans (.memWrite16 _ _ _)

theorem execLdIndNnIX_kept {nn : Word} {s t : State} (h : execLdIndNnIX nn s = .next t) : Kept s t := by
  obtain rfl := Host.Outcome.next.inj h
  exact (Kept.fetched s _ _ _).trans (.memWrite16 _ _ _)

theorem execLdIndNnIY_kept {nn : Word} {s t : State} (h : execLdIndNnIY nn s = .next t) : Kept s t := by
  obtain rfl := Host.Outcome.next.inj h
  exact (Kept.fetched s _ _ _).trans (.memWrite16 _ _ _)

theorem execLdSPHL_kept {s t : State} (h : execLdSPHL s = .next t) : Kept s t := by
  obtain rfl := Host.Outcome.next.inj h
  exact .tick _ rfl rfl rfl

theorem execLdSPIX_kept {s t : State} (h : execLdSPIX s = .next t) : Kept s t := by
  obtain rfl := Host.Outcome.next.inj h
  exact .tick _ rfl rfl rfl

theorem execLdSPIY_kept {s t : State} (h : execLdSPIY s = .next t) : Kept s t := by
  obtain rfl := Host.Outcome.next.inj h
  exact .tick _ rfl rfl rfl

theorem execPushQq_kept {qq : PairAF} {s t : State} (h : execPushQq qq s = .next t) : Kept s t := by
  obtain rfl := Host.Outcome.next.inj h
  exact (Kept.fetched s _ _ _).trans (.push16 _ _)

theorem execPushIX_kept {s t : State} (h : execPushIX s = .next t) : Kept s t := by
  obtain rfl := Host.Outcome.next.inj h
  exact (Kept.fetched s _ _ _).trans (.push16 _ _)

theorem execPushIY_kept {s t : State} (h : execPushIY s = .next t) : Kept s t := by
  obtain rfl := Host.Outcome.next.inj h
  exact (Kept.fetched s _ _ _).trans (.push16 _ _)

theorem execPopQq_kept {qq : PairAF} {s t : State} (h : execPopQq qq s = .next t) : Kept s t := by
  obtain rfl := Host.Outcome.next.inj h
  exact (Kept.tick (s := s) (t := { s.fetched 1 1 10 with sp := s.sp + 2 }) 10 rfl rfl rfl).trans (.setPairAF _ _ _)

theorem execPopIX_kept {s t : State} (h : execPopIX s = .next t) : Kept s t := by
  obtain rfl := Host.Outcome.next.inj h
  exact .tick _ rfl rfl rfl

theorem execPopIY_kept {s t : State} (h : execPopIY s = .next t) : Kept s t := by
  obtain rfl := Host.Outcome.next.inj h
  exact .tick _ rfl rfl rfl

theorem execExAFAF_kept {s t : State} (h : execExAFAF s = .next t) : Kept s t := by
  obtain rfl := Host.Outcome.next.inj h
  exact .tick _ rfl rfl rfl

theorem execExx_kept {s t : State} (h : execExx s = .next t) : Kept s t := by
  obtain rfl := Host.Outcome.next.inj h
  exact .tick _ rfl rfl rfl

theorem execExDEHL_kept {s t : State} (h : execExDEHL s = .next t) : Kept s t := by
  obtain rfl := Host.Outcome.next.inj h
  exact .tick _ rfl rfl rfl

theorem execExIndSPHL_kept {s t : State} (h : execExIndSPHL s = .next t) : Kept s t := by
  obtain rfl := Host.Outcome.next.inj h
  exact ((Kept.fetched s _ _ _).trans (.putTop _ _)).trans (.tick 0 rfl rfl rfl)

theorem execExIndSPIX_kept {s t : State} (h : execExIndSPIX s = .next t) : Kept s t := by
  obtain rfl := Host.Outcome.next.inj h
  exact ((Kept.fetched s _ _ _).trans (.putTop _ _)).trans (.tick 0 rfl rfl rfl)

theorem execExIndSPIY_kept {s t : State} (h : execExIndSPIY s = .next t) : Kept s t := by
  obtain rfl := Host.Outcome.next.inj h
  exact ((Kept.fetched s _ _ _).trans (.putTop _ _)).trans (.tick 0 rfl rfl rfl)

theorem execLdi_kept {s t : State} (h : execLdi s = .next t) : Kept s t := by
  obtain rfl := Host.Outcome.next.inj h
  exact (Kept.fetched s _ _ _).trans (.blockMove _ _)

theorem execLdir_kept {s t : State} (h : execLdir s = .next t) : Kept s t := by
  obtain rfl := Host.Outcome.next.inj h
  exact ((Kept.fetched s _ _ _).trans (.blockMove _ _)).trans (.repeatBlock _ _)

theorem execLdd_kept {s t : State} (h : execLdd s = .next t) : Kept s t := by
  obtain rfl := Host.Outcome.next.inj h
  exact (Kept.fetched s _ _ _).trans (.blockMove _ _)

theorem execLddr_kept {s t : State} (h : execLddr s = .next t) : Kept s t := by
  obtain rfl := Host.Outcome.next.inj h
  exact ((Kept.fetched s _ _ _).trans (.blockMove _ _)).trans (.repeatBlock _ _)

theorem execCpi_kept {s t : State} (h : execCpi s = .next t) : Kept s t := by
  obtain rfl := Host.Outcome.next.inj h
  exact .tick _ rfl rfl rfl

theorem execCpir_kept {s t : State} (h : execCpir s = .next t) : Kept s t := by
  obtain rfl := Host.Outcome.next.inj h
  exact (Kept.tick (s := s) (t := (s.fetched 2 2 16).blockCompare 1) 16 rfl rfl rfl).trans (.repeatBlock _ _)

theorem execCpd_kept {s t : State} (h : execCpd s = .next t) : Kept s t := by
  obtain rfl := Host.Outcome.next.inj h
  exact .tick _ rfl rfl rfl

theorem execCpdr_kept {s t : State} (h : execCpdr s = .next t) : Kept s t := by
  obtain rfl := Host.Outcome.next.inj h
  exact (Kept.tick (s := s) (t := (s.fetched 2 2 16).blockCompare (-1)) 16 rfl rfl rfl).trans (.repeatBlock _ _)

theorem execAddAR_kept {r : Reg8} {s t : State} (h : execAddAR r s = .next t) : Kept s t := by
  obtain rfl := Host.Outcome.next.inj h
  exact .tick _ rfl rfl rfl

theorem execAddAN_kept {n : Byte} {s t : State} (h : execAddAN n s = .next t) : Kept s t := by
  obtain rfl := Host.Outcome.next.inj h
  exact .tick _ rfl rfl rfl

theorem execAddAIndHL_kept {s t : State} (h : execAddAIndHL s = .next t) : Kept s t := by
  obtain rfl := Host.Outcome.next.inj h
  exact .tick _ rfl rfl rfl

theorem execAddAIndIXd_kept {d : Byte} {s t : State} (h : execAddAIndIXd d s = .next t) : Kept s t := by
  obtain rfl := Host.Outcome.next.inj h
  exact .tick _ rfl rfl rfl

theorem execAddAIndIYd_kept {d : Byte} {s t : State} (h : execAddAIndIYd d s = .next t) : Kept s t := by
  obtain rfl := Host.Outcome.next.inj h
  exact .tick _ rfl rfl rfl

theorem execAdcAR_kept {r : Reg8} {s t : State} (h : execAdcAR r s = .next t) : Kept s t := by
  obtain rfl := Host.Outcome.next.inj h
  exact .tick _ rfl rfl rfl

theorem execAdcAN_kept {n : Byte} {s t : State} (h : execAdcAN n s = .next t) : Kept s t := by
  obtain rfl := Host.Outcome.next.inj h
  exact .tick _ rfl rfl rfl

theorem execAdcAIndHL_kept {s t : State} (h : execAdcAIndHL s = .next t) : Kept s t := by
  obtain rfl := Host.Outcome.next.inj h
  exact .tick _ rfl rfl rfl

theorem execAdcAIndIXd_kept {d : Byte} {s t : State} (h : execAdcAIndIXd d s = .next t) : Kept s t := by
  obtain rfl := Host.Outcome.next.inj h
  exact .tick _ rfl rfl rfl

theorem execAdcAIndIYd_kept {d : Byte} {s t : State} (h : execAdcAIndIYd d s = .next t) : Kept s t := by
  obtain rfl := Host.Outcome.next.inj h
  exact .tick _ rfl rfl rfl

theorem execSubR_kept {r : Reg8} {s t : State} (h : execSubR r s = .next t) : Kept s t := by
  obtain rfl := Host.Outcome.next.inj h
  exact .tick _ rfl rfl rfl

theorem execSubN_kept {n : Byte} {s t : State} (h : execSubN n s = .next t) : Kept s t := by
  obtain rfl := Host.Outcome.next.inj h
  exact .tick _ rfl rfl rfl

theorem execSubIndHL_kept {s t : State} (h : execSubIndHL s = .next t) : Kept s t := by
  obtain rfl := Host.Outcome.next.inj h
  exact .tick _ rfl rfl rfl

theorem execSubIndIXd_kept {d : Byte} {s t : State} (h : execSubIndIXd d s = .next t) : Kept s t := by
  obtain rfl := Host.Outcome.next.inj h
  exact .tick _ rfl rfl rfl

theorem execSubIndIYd_kept {d : Byte} {s t : State} (h : execSubIndIYd d s = .next t) : Kept s t := by
  obtain rfl := Host.Outcome.next.inj h
  exact .tick _ rfl rfl rfl

theorem execSbcAR_kept {r : Reg8} {s t : State} (h : execSbcAR r s = .next t) : Kept s t := by
  obtain rfl := Host.Outcome.next.inj h
  exact .tick _ rfl rfl rfl

theorem execSbcAN_kept {n : Byte} {s t : State} (h : execSbcAN n s = .next t) : Kept s t := by
  obtain rfl := Host.Outcome.next.inj h
  exact .tick _ rfl rfl rfl

theorem execSbcAIndHL_kept {s t : State} (h : execSbcAIndHL s = .next t) : Kept s t := by
  obtain rfl := Host.Outcome.next.inj h
  exact .tick _ rfl rfl rfl

theorem execSbcAIndIXd_kept {d : Byte} {s t : State} (h : execSbcAIndIXd d s = .next t) : Kept s t := by
  obtain rfl := Host.Outcome.next.inj h
  exact .tick _ rfl rfl rfl

theorem execSbcAIndIYd_kept {d : Byte} {s t : State} (h : execSbcAIndIYd d s = .next t) : Kept s t := by
  obtain rfl := Host.Outcome.next.inj h
  exact .tick _ rfl rfl rfl

theorem execAndR_kept {r : Reg8} {s t : State} (h : execAndR r s = .next t) : Kept s t := by
  obtain rfl := Host.Outcome.next.inj h
  exact .tick _ rfl rfl rfl

theorem execAndN_kept {n : Byte} {s t : State} (h : execAndN n s = .next t) : Kept s t := by
  obtain rfl := Host.Outcome.next.inj h
  exact .tick _ rfl rfl rfl

theorem execAndIndHL_kept {s t : State} (h : execAndIndHL s = .next t) : Kept s t := by
  obtain rfl := Host.Outcome.next.inj h
  exact .tick _ rfl rfl rfl

theorem execAndIndIXd_kept {d : Byte} {s t : State} (h : execAndIndIXd d s = .next t) : Kept s t := by
  obtain rfl := Host.Outcome.next.inj h
  exact .tick _ rfl rfl rfl

theorem execAndIndIYd_kept {d : Byte} {s t : State} (h : execAndIndIYd d s = .next t) : Kept s t := by
  obtain rfl := Host.Outcome.next.inj h
  exact .tick _ rfl rfl rfl

theorem execOrR_kept {r : Reg8} {s t : State} (h : execOrR r s = .next t) : Kept s t := by
  obtain rfl := Host.Outcome.next.inj h
  exact .tick _ rfl rfl rfl

theorem execOrN_kept {n : Byte} {s t : State} (h : execOrN n s = .next t) : Kept s t := by
  obtain rfl := Host.Outcome.next.inj h
  exact .tick _ rfl rfl rfl

theorem execOrIndHL_kept {s t : State} (h : execOrIndHL s = .next t) : Kept s t := by
  obtain rfl := Host.Outcome.next.inj h
  exact .tick _ rfl rfl rfl

theorem execOrIndIXd_kept {d : Byte} {s t : State} (h : execOrIndIXd d s = .next t) : Kept s t := by
  obtain rfl := Host.Outcome.next.inj h
  exact .tick _ rfl rfl rfl

theorem execOrIndIYd_kept {d : Byte} {s t : State} (h : execOrIndIYd d s = .next t) : Kept s t := by
  obtain rfl := Host.Outcome.next.inj h
  exact .tick _ rfl rfl rfl

theorem execXorR_kept {r : Reg8} {s t : State} (h : execXorR r s = .next t) : Kept s t := by
  obtain rfl := Host.Outcome.next.inj h
  exact .tick _ rfl rfl rfl

theorem execXorN_kept {n : Byte} {s t : State} (h : execXorN n s = .next t) : Kept s t := by
  obtain rfl := Host.Outcome.next.inj h
  exact .tick _ rfl rfl rfl

theorem execXorIndHL_kept {s t : State} (h : execXorIndHL s = .next t) : Kept s t := by
  obtain rfl := Host.Outcome.next.inj h
  exact .tick _ rfl rfl rfl

theorem execXorIndIXd_kept {d : Byte} {s t : State} (h : execXorIndIXd d s = .next t) : Kept s t := by
  obtain rfl := Host.Outcome.next.inj h
  exact .tick _ rfl rfl rfl

theorem execXorIndIYd_kept {d : Byte} {s t : State} (h : execXorIndIYd d s = .next t) : Kept s t := by
  obtain rfl := Host.Outcome.next.inj h
  exact .tick _ rfl rfl rfl

theorem execCpR_kept {r : Reg8} {s t : State} (h : execCpR r s = .next t) : Kept s t := by
  obtain rfl := Host.Outcome.next.inj h
  exact .tick _ rfl rfl rfl

theorem execCpN_kept {n : Byte} {s t : State} (h : execCpN n s = .next t) : Kept s t := by
  obtain rfl := Host.Outcome.next.inj h
  exact .tick _ rfl rfl rfl

theorem execCpIndHL_kept {s t : State} (h : execCpIndHL s = .next t) : Kept s t := by
  obtain rfl := Host.Outcome.next.inj h
  exact .tick _ rfl rfl rfl

theorem execCpIndIXd_kept {d : Byte} {s t : State} (h : execCpIndIXd d s = .next t) : Kept s t := by
  obtain rfl := Host.Outcome.next.inj h
  exact .tick _ rfl rfl rfl

theorem execCpIndIYd_kept {d : Byte} {s t : State} (h : execCpIndIYd d s = .next t) : Kept s t := by
  obtain rfl := Host.Outcome.next.inj h
  exact .tick _ rfl rfl rfl

theorem execIncR_kept {r : Reg8} {s t : State} (h : execIncR r s = .next t) : Kept s t := by
  obtain rfl := Host.Outcome.next.inj h
  exact (Kept.fetched s _ _ _).trans (.incReg _ _)

theorem execIncIndHL_kept {s t : State} (h : execIncIndHL s = .next t) : Kept s t := by
  obtain rfl := Host.Outcome.next.inj h
  exact (Kept.fetched s _ _ _).trans (.incMem _ _)

theorem execIncIndIXd_kept {d : Byte} {s t : State} (h : execIncIndIXd d s = .next t) : Kept s t := by
  obtain rfl := Host.Outcome.next.inj h
  exact (Kept.fetched s _ _ _).trans (.incMem _ _)

theorem execIncIndIYd_kept {d : Byte} {s t : State} (h : execIncIndIYd d s = .next t) : Kept s t := by
  obtain rfl := Host.Outcome.next.inj h
  exact (Kept.fetched s _ _ _).trans (.incMem _ _)

theorem execDecR_kept {r : Reg8} {s t : State} (h : execDecR r s = .next t) : Kept s t := by
  obtain rfl := Host.Outcome.next.inj h
  exact (Kept.fetched s _ _ _).trans (.decReg _ _)

theorem execDecIndHL_kept {s t : State} (h : execDecIndHL s = .next t) : Kept s t := by
  obtain rfl := Host.Outcome.next.inj h
  exact (Kept.fetched s _ _ _).trans (.decMem _ _)

theorem execDecIndIXd_kept {d : Byte} {s t : State} (h : execDecIndIXd d s = .next t) : Kept s t := by
  obtain rfl := Host.Outcome.next.inj h
  exact (Kept.fetched s _ _ _).trans (.decMem _ _)

theorem execDecIndIYd_kept {d : Byte} {s t : State} (h : execDecIndIYd d s = .next t) : Kept s t := by
  obtain rfl := Host.Outcome.next.inj h
  exact (Kept.fetched s _ _ _).trans (.decMem _ _)

theorem execDaa_kept {s t : State} (h : execDaa s = .next t) : Kept s t := by
  obtain rfl := Host.Outcome.next.inj h
  exact .tick _ rfl rfl rfl

theorem execCpl_kept {s t : State} (h : execCpl s = .next t) : Kept s t := by
  obtain rfl := Host.Outcome.next.inj h
  exact .tick _ rfl rfl rfl

theorem execNeg_kept {s t : State} (h : execNeg s = .next t) : Kept s t := by
  obtain rfl := Host.Outcome.next.inj h
  exact .tick _ rfl rfl rfl

theorem execCcf_kept {s t : State} (h : execCcf s = .next t) : Kept s t := by
  obtain rfl := Host.Outcome.next.inj h
  exact .tick _ rfl rfl rfl

theorem execScf_kept {s t : State} (h : execScf s = .next t) : Kept s t := by
  obtain rfl := Host.Outcome.next.inj h
  exact .tick _ rfl rfl rfl

theorem execNop_kept {s t : State} (h : execNop s = .next t) : Kept s t := by
  obtain rfl := Host.Outcome.next.inj h
  exact .tick _ rfl rfl rfl

theorem execHalt_kept {s t : State} (h : execHalt s = .next t) : Kept s t := by
  obtain rfl := Host.Outcome.next.inj h
  exact .tick _ rfl rfl rfl

theorem execDi_kept {s t : State} (h : execDi s = .next t) : Kept s t := by
  obtain rfl := Host.Outcome.next.inj h
  exact .tick _ rfl rfl rfl

theorem execEi_kept {s t : State} (h : execEi s = .next t) : Kept s t := by
  obtain rfl := Host.Outcome.next.inj h
  exact .holdOff rfl (Nat.le_add_right _ _) rfl

theorem execIm0_kept {s t : State} (h : execIm0 s = .next t) : Kept s t := by
  obtain rfl := Host.Outcome.next.inj h
  exact .tick _ rfl rfl rfl

theorem execIm1_kept {s t : State} (h : execIm1 s = .next t) : Kept s t := by
  obtain rfl := Host.Outcome.next.inj h
  exact .tick _ rfl rfl rfl

theorem execIm2_kept {s t : State} (h : execIm2 s = .next t) : Kept s t := by
  obtain rfl := Host.Outcome.next.inj h
  exact .tick _ rfl rfl rfl

theorem execAddHLSs_kept {ss : PairSP} {s t : State} (h : execAddHLSs ss s = .next t) : Kept s t := by
  obtain rfl := Host.Outcome.next.inj h
  exact .tick _ rfl rfl rfl

theorem execAdcHLSs_kept {ss : PairSP} {s t : State} (h : execAdcHLSs ss s = .next t) : Kept s t := by
  obtain rfl := Host.Outcome.next.inj h
  exact .tick _ rfl rfl rfl

theorem execSbcHLSs_kept {ss : PairSP} {s t : State} (h : execSbcHLSs ss s = .next t) : Kept s t := by
  obtain rfl := Host.Outcome.next.inj h
  exact .tick _ rfl rfl rfl

theorem execAddIXPp_kept {pp : PairXY} {s t : State} (h : execAddIXPp pp s = .next t) : Kept s t := by
  obtain rfl := Host.Outcome.next.inj h
  exact .tick _ rfl rfl rfl

theorem execAddIYRr_kept {pp : PairXY} {s t : State} (h : execAddIYRr pp s = .next t) : Kept s t := by
  obtain rfl := Host.Outcome.next.inj h
  exact .tick _ rfl rfl rfl

theorem execIncSs_kept {ss : PairSP} {s t : State} (h : execIncSs ss s = .next t) : Kept s t := by
  obtain rfl := Host.Outcome.next.inj h
  exact (Kept.fetched s _ _ _).trans (.setPairSP _ _ _)

theorem execIncIX_kept {s t : State} (h : execIncIX s = .next t) : Kept s t := by
  obtain rfl := Host.Outcome.next.inj h
  exact .tick _ rfl rfl rfl

theorem execIncIY_kept {s t : State} (h : execIncIY s = .next t) : Kept s t := by
  obtain rfl := Host.Outcome.next.inj h
  exact .tick _ rfl rfl rfl

theorem execDecSs_kept {ss : PairSP} {s t : State} (h : execDecSs ss s = .next t) : Kept s t := by
  obtain rfl := Host.Outcome.next.inj h
  exact (Kept.fetched s _ _ _).trans (.setPairSP _ _ _)

theorem execDecIX_kept {s t : State} (h : execDecIX s = .next t) : Kept s t := by
  obtain rfl := Host.Outcome.next.inj h
  exact .tick _ rfl rfl rfl

theorem execDecIY_kept {s t : State} (h : execDecIY s = .next t) : Kept s t := by
  obtain rfl := Host.Outcome.next.inj h
  exact .tick _ rfl rfl rfl

theorem execRlca_kept {s t : State} (h : execRlca s = .next t) : Kept s t := by
  obtain rfl := Host.Outcome.next.inj h
  exact .tick _ rfl rfl rfl

theorem execRla_kept {s t : State} (h : execRla s = .next t) : Kept s t := by
  obtain rfl := Host.Outcome.next.inj h
  exact .tick _ rfl rfl rfl

theorem execRrca_kept {s t : State} (h : execRrca s = .next t) : Kept s t := by
  obtain rfl := Host.Outcome.next.inj h
  exact .tick _ rfl rfl rfl

theorem execRra_kept {s t : State} (h : execRra s = .next t) : Kept s t := by
  obtain rfl := Host.Outcome.next.inj h
  exact .tick _ rfl rfl rfl

theorem execRlcR_kept {r : Reg8} {s t : State} (h : execRlcR r s = .next t) : Kept s t := by
  obtain rfl := Host.Outcome.next.inj h
  exact (Kept.fetched s _ _ _).trans (.shiftReg _ _ _)

theorem execRlcIndHL_kept {s t : State} (h : execRlcIndHL s = .next t) : Kept s t := by
  obtain rfl := Host.Outcome.next.inj h
  exact (Kept.fetched s _ _ _).trans (.shiftMem _ _ _)

theorem execRlcIndIXd_kept {d : Byte} {s t : State} (h : execRlcIndIXd d s = .next t) : Kept s t := by
  obtain rfl := Host.Outcome.next.inj h
  exact (Kept.fetched s _ _ _).trans (.shiftMem _ _ _)

theorem execRlcIndIYd_kept {d : Byte} {s t : State} (h : execRlcIndIYd d s = .next t) : Kept s t := by
  obtain rfl := Host.Outcome.next.inj h
  exact (Kept.fetched s _ _ _).trans (.shiftMem _ _ _)

theorem execRlR_kept {r : Reg8} {s t : State} (h : execRlR r s = .next t) : Kept s t := by
  obtain rfl := Host.Outcome.next.inj h
  exact (Kept.fetched s _ _ _).trans (.shiftReg _ _ _)

theorem execRlIndHL_kept {s t : State} (h : execRlIndHL s = .next t) : Kept s t := by
  obtain rfl := Host.Outcome.next.inj h
  exact (Kept.fetched s _ _ _).trans (.shiftMem _ _ _)

theorem execRlIndIXd_kept {d : Byte} {s t : State} (h : execRlIndIXd d s = .next t) : Kept s t := by
  obtain rfl := Host.Outcome.next.inj h
  exact (Kept.fetched s _ _ _).trans (.shiftMem _ _ _)

theorem execRlIndIYd_kept {d : Byte} {s t : State} (h : execRlIndIYd d s = .next t) : Kept s t := by
  obtain rfl := Host.Outcome.next.inj h
  exact (Kept.fetched s _ _ _).trans (.shiftMem _ _ _)

theorem execRrcR_kept {r : Reg8} {s t : State} (h : execRrcR r s = .next t) : Kept s t := by
  obtain rfl := Host.Outcome.next.inj h
  exact (Kept.fetched s _ _ _).trans (.shiftReg _ _ _)

theorem execRrcIndHL_kept {s t : State} (h : execRrcIndHL s = .next t) : Kept s t := by
  obtain rfl := Host.Outcome.next.inj h
  exact (Kept.fetched s _ _ _).trans (.shiftMem _ _ _)

theorem execRrcIndIXd_kept {d : Byte} {s t : State} (h : execRrcIndIXd d s = .next t) : Kept s t := by
  obtain rfl := Host.Outcome.next.inj h
  exact (Kept.fetched s _ _ _).trans (.shiftMem _ _ _)

theorem execRrcIndIYd_kept {d : Byte} {s t : State} (h : execRrcIndIYd d s = .next t) : Kept s t := by
  obtain rfl := Host.Outcome.next.inj h
  exact (Kept.fetched s _ _ _).trans (.shiftMem _ _ _)

theorem execRrR_kept {r : Reg8} {s t : State} (h : execRrR r s = .next t) : Kept s t := by
  obtain rfl := Host.Outcome.next.inj h
  exact (Kept.fetched s _ _ _).trans (.shiftReg _ _ _)

theorem execRrIndHL_kept {s t : State} (h : execRrIndHL s = .next t) : Kept s t := by
  obtain rfl := Host.Outcome.next.inj h
  exact (Kept.fetched s _ _ _).trans (.shiftMem _ _ _)

theorem execRrIndIXd_kept {d : Byte} {s t : State} (h : execRrIndIXd d s = .next t) : Kept s t := by
  obtain rfl := Host.Outcome.next.inj h
  exact (Kept.fetched s _ _ _).trans (.shiftMem _ _ _)

theorem execRrIndIYd_kept {d : Byte} {s t : State} (h : execRrIndIYd d s = .next t) : Kept s t := by
  obtain rfl := Host.Outcome.next.inj h
  exact (Kept.fetched s _ _ _).trans (.shiftMem _ _ _)

theorem execSlaR_kept {r : Reg8} {s t : State} (h : execSlaR r s = .next t) : Kept s t := by
  obtain rfl := Host.Outcome.next.inj h
  exact (Kept.fetched s _ _ _).trans (.shiftReg _ _ _)

theorem execSlaIndHL_kept {s t : State} (h : execSlaIndHL s = .next t) : Kept s t := by
  obtain rfl := Host.Outcome.next.inj h
  exact (Kept.fetched s _ _ _).trans (.shiftMem _ _ _)

theorem execSlaIndIXd_kept {d : Byte} {s t : State} (h : execSlaIndIXd d s = .next t) : Kept s t := by
  obtain rfl := Host.Outcome.next.inj h
  exact (Kept.fetched s _ _ _).trans (.shiftMem _ _ _)

theorem execSlaIndIYd_kept {d : Byte} {s t : State} (h : execSlaIndIYd d s = .next t) : Kept s t := by
  obtain rfl := Host.Outcome.next.inj h
  exact (Kept.fetched s _ _ _).trans (.shiftMem _ _ _)

theorem execSraR_kept {r : Reg8} {s t : State} (h : execSraR r s = .next t) : Kept s t := by
  obtain rfl := Host.Outcome.next.inj h
  exact (Kept.fetched s _ _ _).trans (.shiftReg _ _ _)

theorem execSraIndHL_kept {s t : State} (h : execSraIndHL s = .next t) : Kept s t := by
  obtain rfl := Host.Outcome.next.inj h
  exact (Kept.fetched s _ _ _).trans (.shiftMem _ _ _)

theorem execSraIndIXd_kept {d : Byte} {s t : State} (h : execSraIndIXd d s = .next t) : Kept s t := by
  obtain rfl := Host.Outcome.next.inj h
  exact (Kept.fetched s _ _ _).trans (.shiftMem _ _ _)

theorem execSraIndIYd_kept {d : Byte} {s t : State} (h : execSraIndIYd d s = .next t) : Kept s t := by
  obtain rfl := Host.Outcome.next.inj h
  exact (Kept.fetched s _ _ _).trans (.shiftMem _ _ _)

theorem execSrlR_kept {r : Reg8} {s t : State} (h : execSrlR r s = .next t) : Kept s t := by
  obtain rfl := Host.Outcome.next.inj h
  exact (Kept.fetched s _ _ _).trans (.shiftReg _ _ _)

theorem execSrlIndHL_kept {s t : State} (h : execSrlIndHL s = .next t) : Kept s t := by
  obtain rfl := Host.Outcome.next.inj h
  exact (Kept.fetched s _ _ _).trans (.shiftMem _ _ _)

theorem execSrlIndIXd_kept {d : Byte} {s t : State} (h : execSrlIndIXd d s = .next t) : Kept s t := by
  obtain rfl := Host.Outcome.next.inj h
  exact (Kept.fetched s _ _ _).trans (.shiftMem _ _ _)

theorem execSrlIndIYd_kept {d : Byte} {s t : State} (h : execSrlIndIYd d s = .next t) : Kept s t := by
  obtain rfl := Host.Outcome.next.inj h
  exact (Kept.fetched s _ _ _).trans (.shiftMem _ _ _)

theorem execRld_kept {s t : State} (h : execRld s = .next t) : Kept s t := by
  obtain rfl := Host.Outcome.next.inj h
  exact (Kept.fetched s _ _ _).trans (.digit _ _ _)

theorem execRrd_kept {s t : State} (h : execRrd s = .next t) : Kept s t := by
  obtain rfl := Host.Outcome.next.inj h
  exact (Kept.fetched s _ _ _).trans (.digit _ _ _)

theorem execBitBR_kept {b : BitVec 3} {r : Reg8} {s t : State} (h : execBitBR b r s = .next t) : Kept s t := by
  obtain rfl := Host.Outcome.next.inj h
  exact .tick _ rfl rfl rfl

theorem execBitBIndHL_kept {b : BitVec 3} {s t : State} (h : execBitBIndHL b s = .next t) : Kept s t := by
  obtain rfl := Host.Outcome.next.inj h
  exact .tick _ rfl rfl rfl

theorem execBitBIndIXd_kept {b : BitVec 3} {d : Byte} {s t : State} (h : execBitBIndIXd b d s = .next t) : Kept s t := by
  obtain rfl := Host.Outcome.next.inj h
  exact .tick _ rfl rfl rfl

theorem execBitBIndIYd_kept {b : BitVec 3} {d : Byte} {s t : State} (h : execBitBIndIYd b d s = .next t) : Kept s t := by
  obtain rfl := Host.Outcome.next.inj h
  exact .tick _ rfl rfl rfl

theorem execSetBR_kept {b : BitVec 3} {r : Reg8} {s t : State} (h : execSetBR b r s = .next t) : Kept s t := by
  obtain rfl := Host.Outcome.next.inj h
  exact (Kept.fetched s _ _ _).trans (.setReg _ _ _)

theorem execSetBIndHL_kept {b : BitVec 3} {s t : State} (h : execSetBIndHL b s = .next t) : Kept s t := by
  obtain rfl := Host.Outcome.next.inj h
  exact (Kept.fetched s _ _ _).trans (.modifyMem _ _ _)

theorem execSetBIndIXd_kept {b : BitVec 3} {d : Byte} {s t : State} (h : execSetBIndIXd b d s = .next t) : Kept s t := by
  obtain rfl := Host.Outcome.next.inj h
  exact (Kept.fetched s _ _ _).trans (.modifyMem _ _ _)

theorem execSetBIndIYd_kept {b : BitVec 3} {d : Byte} {s t : State} (h : execSetBIndIYd b d s = .next t) : Kept s t := by
  obtain rfl := Host.Outcome.next.inj h
  exact (Kept.fetched s _ _ _).trans (.modifyMem _ _ _)

theorem execResBR_kept {b : BitVec 3} {r : Reg8} {s t : State} (h : execResBR b r s = .next t) : Kept s t := by
  obtain rfl := Host.Outcome.next.inj h
  exact (Kept.fetched s _ _ _).trans (.setReg _ _ _)

theorem execResBIndHL_kept {b : BitVec 3} {s t : State} (h : execResBIndHL b s = .next t) : Kept s t := by
  obtain rfl := Host.Outcome.next.inj h
  exact (Kept.fetched s _ _ _).trans (.modifyMem _ _ _)

theorem execResBIndIXd_kept {b : BitVec 3} {d : Byte} {s t : State} (h : execResBIndIXd b d s = .next t) : Kept s t := by
  obtain rfl := Host.Outcome.next.inj h
  exact (Kept.fetched s _ _ _).trans (.modifyMem _ _ _)

theorem execResBIndIYd_kept {b : BitVec 3} {d : Byte} {s t : State} (h : execResBIndIYd b d s = .next t) : Kept s t := by
  obtain rfl := Host.Outcome.next.inj h
  exact (Kept.fetched s _ _ _).trans (.modifyMem _ _ _)

theorem execJpNn_kept {nn : Word} {s t : State} (h : execJpNn nn s = .next t) : Kept s t := by
  obtain rfl := Host.Outcome.next.inj h
  exact .tick _ rfl rfl rfl

theorem execJpCcNn_kept {cc : Cond} {nn : Word} {s t : State} (h : execJpCcNn cc nn s = .next t) : Kept s t := by
  obtain rfl := Host.Outcome.next.inj h
  split <;> exact .tick _ rfl rfl rfl

theorem execJrE_kept {e : Byte} {s t : State} (h : execJrE e s = .next t) : Kept s t := by
  obtain rfl := Host.Outcome.next.inj h
  exact .tick _ rfl rfl rfl

theorem execJrCE_kept {e : Byte} {s t : State} (h : execJrCE e s = .next t) : Kept s t := by
  obtain rfl := Host.Outcome.next.inj h
  exact (Kept.fetched s _ _ _).trans (.jumpIf _ _ _)

theorem execJrNCE_kept {e : Byte} {s t : State} (h : execJrNCE e s = .next t) : Kept s t := by
  obtain rfl := Host.Outcome.next.inj h
  exact (Kept.fetched s _ _ _).trans (.jumpIf _ _ _)

theorem execJrZE_kept {e : Byte} {s t : State} (h : execJrZE e s = .next t) : Kept s t := by
  obtain rfl := Host.Outcome.next.inj h
  exact (Kept.fetched s _ _ _).trans (.jumpIf _ _ _)

theorem execJrNZE_kept {e : Byte} {s t : State} (h : execJrNZE e s = .next t) : Kept s t := by
  obtain rfl := Host.Outcome.next.inj h
  exact (Kept.fetched s _ _ _).trans (.jumpIf _ _ _)

theorem execJpIndHL_kept {s t : State} (h : execJpIndHL s = .next t) : Kept s t := by
  obtain rfl := Host.Outcome.next.inj h
  exact .tick _ rfl rfl rfl

theorem execJpIndIX_kept {s t : State} (h : execJpIndIX s = .next t) : Kept s t := by
  obtain rfl := Host.Outcome.next.inj h
  exact .tick _ rfl rfl rfl

theorem execJpIndIY_kept {s t : State} (h : execJpIndIY s = .next t) : Kept s t := by
  obtain rfl := Host.Outcome.next.inj h
  exact .tick _ rfl rfl rfl

theorem execDjnzE_kept {e : Byte} {s t : State} (h : execDjnzE e s = .next t) : Kept s t := by
  obtain rfl := Host.Outcome.next.inj h
  exact (Kept.tick (s := s) (t := { s.fetched 2 1 8 with b := s.b - 1 }) 8 rfl rfl rfl).trans (.jumpIf _ _ _)

theorem execCallNn_kept {nn : Word} {s t : State} (h : execCallNn nn s = .next t) : Kept s t := by
  obtain rfl := Host.Outcome.next.inj h
  exact (Kept.fetched s _ _ _).trans (.call _ _)

theorem execCallCcNn_kept {cc : Cond} {nn : Word} {s t : State} (h : execCallCcNn cc nn s = .next t) : Kept s t := by
  obtain rfl := Host.Outcome.next.inj h
  split
  · exact ((Kept.fetched s _ _ _).trans (.call _ nn)).trans (.tick 7 rfl (by simp [State.call]) rfl)
  · exact .tick _ rfl rfl rfl

theorem execRet_kept {s t : State} (h : execRet s = .next t) : Kept s t := by
  obtain rfl := Host.Outcome.next.inj h
  exact .tick _ rfl rfl rfl

theorem execRetCc_kept {cc : Cond} {s t : State} (h : execRetCc cc s = .next t) : Kept s t := by
  obtain rfl := Host.Outcome.next.inj h
  split
  · exact .tick 11 rfl rfl rfl
  · exact .tick 5 rfl rfl rfl

theorem execReti_kept {s t : State} (h : execReti s = .next t) : Kept s t := by
  obtain rfl := Host.Outcome.next.inj h
  exact .tick _ rfl rfl rfl

theorem execRetn_kept {s t : State} (h : execRetn s = .next t) : Kept s t := by
  obtain rfl := Host.Outcome.next.inj h
  exact .tick _ rfl rfl rfl

theorem execRstP_kept {p : BitVec 3} {s t : State} (h : execRstP p s = .next t) : Kept s t := by
  obtain rfl := Host.Outcome.next.inj h
  exact (Kept.fetched s _ _ _).trans (.call _ _)

theorem execInAPortN_kept {n : Byte} {s t : State} (h : execInAPortN n s = .next t) : Kept s t := by
  obtain rfl := Host.Outcome.next.inj h
  exact ((Kept.fetched s _ _ _).trans (State.portReadAt_kept _ _ _ _)).trans (.tick 0 rfl rfl rfl)

theorem execInRPortC_kept {r : Reg8} {s t : State} (h : execInRPortC r s = .next t) : Kept s t := by
  obtain rfl := Host.Outcome.next.inj h
  refine Kept.trans ?_ (.setReg _ _ _)
  exact ((Kept.fetched s _ _ _).trans (State.portReadAt_kept _ _ _ _)).trans (.tick 0 rfl rfl rfl)

theorem execIni_kept {s t : State} (h : execIni s = .next t) : Kept s t := by
  obtain rfl := Host.Outcome.next.inj h
  exact (Kept.fetched s _ _ _).trans (.blockIn _ _)

theorem execInir_kept {s t : State} (h : execInir s = .next t) : Kept s t := by
  obtain rfl := Host.Outcome.next.inj h
  exact ((Kept.fetched s _ _ _).trans (.blockIn _ _)).trans (.repeatBlock _ _)

theorem execInd_kept {s t : State} (h : execInd s = .next t) : Kept s t := by
  obtain rfl := Host.Outcome.next.inj h
  exact (Kept.fetched s _ _ _).trans (.blockIn _ _)

theorem execIndr_kept {s t : State} (h : execIndr s = .next t) : Kept s t := by
  obtain rfl := Host.Outcome.next.inj h
  exact ((Kept.fetched s _ _ _).trans (.blockIn _ _)).trans (.repeatBlock _ _)

theorem execOutPortNA_kept {n : Byte} {s t : State} (h : execOutPortNA n s = .next t) : Kept s t := by
  obtain rfl := Host.Outcome.next.inj h
  exact (Kept.fetched s _ _ _).trans (State.portWriteAt_kept _ _ _ _ _)

theorem execOutPortCR_kept {r : Reg8} {s t : State} (h : execOutPortCR r s = .next t) : Kept s t := by
  obtain rfl := Host.Outcome.next.inj h
  exact (Kept.fetched s _ _ _).trans (State.portWriteAt_kept _ _ _ _ _)

theorem execOuti_kept {s t : State} (h : execOuti s = .next t) : Kept s t := by
  obtain rfl := Host.Outcome.next.inj h
  exact (Kept.fetched s _ _ _).trans (.blockOut _ _)

theorem execOtir_kept {s t : State} (h : execOtir s = .next t) : Kept s t := by
  obtain rfl := Host.Outcome.next.inj h
  exact ((Kept.fetched s _ _ _).trans (.blockOut _ _)).trans (.repeatBlock _ _)

theorem execOutd_kept {s t : State} (h : execOutd s = .next t) : Kept s t := by
  obtain rfl := Host.Outcome.next.inj h
  exact (Kept.fetched s _ _ _).trans (.blockOut _ _)

theorem execOtdr_kept {s t : State} (h : execOtdr s = .next t) : Kept s t := by
  obtain rfl := Host.Outcome.next.inj h
  exact ((Kept.fetched s _ _ _).trans (.blockOut _ _)).trans (.repeatBlock _ _)

theorem execLdPPIX_kept {dst : RegXY} {src : RegXY} {s t : State} (h : execLdPPIX dst src s = .next t) : Kept s t := by
  obtain rfl := Host.Outcome.next.inj h
  exact (Kept.fetched s _ _ _).trans (.setRegIX _ _ _)

theorem execLdIXHN_kept {n : Byte} {s t : State} (h : execLdIXHN n s = .next t) : Kept s t := by
  obtain rfl := Host.Outcome.next.inj h
  exact .tick _ rfl rfl rfl

theorem execIncIXH_kept {s t : State} (h : execIncIXH s = .next t) : Kept s t := by
  obtain rfl := Host.Outcome.next.inj h
  exact .tick _ rfl rfl rfl

theorem execDecIXH_kept {s t : State} (h : execDecIXH s = .next t) : Kept s t := by
  obtain rfl := Host.Outcome.next.inj h
  exact .tick _ rfl rfl rfl

theorem execAddAIXH_kept {s t : State} (h : execAddAIXH s = .next t) : Kept s t := by
  obtain rfl := Host.Outcome.next.inj h
  exact .tick _ rfl rfl rfl

theorem execAdcAIXH_kept {s t : State} (h : execAdcAIXH s = .next t) : Kept s t := by
  obtain rfl := Host.Outcome.next.inj h
  exact .tick _ rfl rfl rfl

theorem execSubIXH_kept {s t : State} (h : execSubIXH s = .next t) : Kept s t := by
  obtain rfl := Host.Outcome.next.inj h
  exact .tick _ rfl rfl rfl

theorem execSbcAIXH_kept {s t : State} (h : execSbcAIXH s = .next t) : Kept s t := by
  obtain rfl := Host.Outcome.next.inj h
  exact .tick _ rfl rfl rfl

theorem execAndIXH_kept {s t : State} (h : execAndIXH s = .next t) : Kept s t := by
  obtain rfl := Host.Outcome.next.inj h
  exact .tick _ rfl rfl rfl

theorem execOrIXH_kept {s t : State} (h : execOrIXH s = .next t) : Kept s t := by
  obtain rfl := Host.Outcome.next.inj h
  exact .tick _ rfl rfl rfl

theorem execXorIXH_kept {s t : State} (h : execXorIXH s = .next t) : Kept s t := by
  obtain rfl := Host.Outcome.next.inj h
  exact .tick _ rfl rfl rfl

theorem execCpIXH_kept {s t : State} (h : execCpIXH s = .next t) : Kept s t := by
  obtain rfl := Host.Outcome.next.inj h
  exact .tick _ rfl rfl rfl

theorem execLdIXLN_kept {n : Byte} {s t : State} (h : execLdIXLN n s = .next t) : Kept s t := by
  obtain rfl := Host.Outcome.next.inj h
  exact .tick _ rfl rfl rfl

theorem execIncIXL_kept {s t : State} (h : execIncIXL s = .next t) : Kept s t := by
  obtain rfl := Host.Outcome.next.inj h
  exact .tick _ rfl rfl rfl

theorem execDecIXL_kept {s t : State} (h : execDecIXL s = .next t) : Kept s t := by
  obtain rfl := Host.Outcome.next.inj h
  exact .tick _ rfl rfl rfl

theorem execAddAIXL_kept {s t : State} (h : execAddAIXL s = .next t) : Kept s t := by
  obtain rfl := Host.Outcome.next.inj h
  exact .tick _ rfl rfl rfl

theorem execAdcAIXL_kept {s t : State} (h : execAdcAIXL s = .next t) : Kept s t := by
  obtain rfl := Host.Outcome.next.inj h
  exact .tick _ rfl rfl rfl

theorem execSubIXL_kept {s t : State} (h : execSubIXL s = .next t) : Kept s t := by
  obtain rfl := Host.Outcome.next.inj h
  exact .tick _ rfl rfl rfl

theorem execSbcAIXL_kept {s t : State} (h : execSbcAIXL s = .next t) : Kept s t := by
  obtain rfl := Host.Outcome.next.inj h
  exact .tick _ rfl rfl rfl

theorem execAndIXL_kept {s t : State} (h : execAndIXL s = .next t) : Kept s t := by
  obtain rfl := Host.Outcome.next.inj h
  exact .tick _ rfl rfl rfl

theorem execOrIXL_kept {s t : State} (h : execOrIXL s = .next t) : Kept s t := by
  obtain rfl := Host.Outcome.next.inj h
  exact .tick _ rfl rfl rfl

theorem execXorIXL_kept {s t : State} (h : execXorIXL s = .next t) : Kept s t := by
  obtain rfl := Host.Outcome.next.inj h
  exact .tick _ rfl rfl rfl

theorem execCpIXL_kept {s t : State} (h : execCpIXL s = .next t) : Kept s t := by
  obtain rfl := Host.Outcome.next.inj h
  exact .tick _ rfl rfl rfl

theorem execLdPPIY_kept {dst : RegXY} {src : RegXY} {s t : State} (h : execLdPPIY dst src s = .next t) : Kept s t := by
  obtain rfl := Host.Outcome.next.inj h
  exact (Kept.fetched s _ _ _).trans (.setRegIY _ _ _)

theorem execLdIYHN_kept {n : Byte} {s t : State} (h : execLdIYHN n s = .next t) : Kept s t := by
  obtain rfl := Host.Outcome.next.inj h
  exact .tick _ rfl rfl rfl

theorem execIncIYH_kept {s t : State} (h : execIncIYH s = .next t) : Kept s t := by
  obtain rfl := Host.Outcome.next.inj h
  exact .tick _ rfl rfl rfl

theorem execDecIYH_kept {s t : State} (h : execDecIYH s = .next t) : Kept s t := by
  obtain rfl := Host.Outcome.next.inj h
  exact .tick _ rfl rfl rfl

theorem execAddAIYH_kept {s t : State} (h : execAddAIYH s = .next t) : Kept s t := by
  obtain rfl := Host.Outcome.next.inj h
  exact .tick _ rfl rfl rfl

theorem execAdcAIYH_kept {s t : State} (h : execAdcAIYH s = .next t) : Kept s t := by
  obtain rfl := Host.Outcome.next.inj h
  exact .tick _ rfl rfl rfl

theorem execSubIYH_kept {s t : State} (h : execSubIYH s = .next t) : Kept s t := by
  obtain rfl := Host.Outcome.next.inj h
  exact .tick _ rfl rfl rfl

theorem execSbcAIYH_kept {s t : State} (h : execSbcAIYH s = .next t) : Kept s t := by
  obtain rfl := Host.Outcome.next.inj h
  exact .tick _ rfl rfl rfl

theorem execAndIYH_kept {s t : State} (h : execAndIYH s = .next t) : Kept s t := by
  obtain rfl := Host.Outcome.next.inj h
  exact .tick _ rfl rfl rfl

theorem execOrIYH_kept {s t : State} (h : execOrIYH s = .next t) : Kept s t := by
  obtain rfl := Host.Outcome.next.inj h
  exact .tick _ rfl rfl rfl

theorem execXorIYH_kept {s t : State} (h : execXorIYH s = .next t) : Kept s t := by
  obtain rfl := Host.Outcome.next.inj h
  exact .tick _ rfl rfl rfl

theorem execCpIYH_kept {s t : State} (h : execCpIYH s = .next t) : Kept s t := by
  obtain rfl := Host.Outcome.next.inj h
  exact .tick _ rfl rfl rfl

theorem execLdIYLN_kept {n : Byte} {s t : State} (h : execLdIYLN n s = .next t) : Kept s t := by
  obtain rfl := Host.Outcome.next.inj h
  exact .tick _ rfl rfl rfl

theorem execIncIYL_kept {s t : State} (h : execIncIYL s = .next t) : Kept s t := by
  obtain rfl := Host.Outcome.next.inj h
  exact .tick _ rfl rfl rfl

theorem execDecIYL_kept {s t : State} (h : execDecIYL s = .next t) : Kept s t := by
  obtain rfl := Host.Outcome.next.inj h
  exact .tick _ rfl rfl rfl

theorem execAddAIYL_kept {s t : State} (h : execAddAIYL s = .next t) : Kept s t := by
  obtain rfl := Host.Outcome.next.inj h
  exact .tick _ rfl rfl rfl

theorem execAdcAIYL_kept {s t : State} (h : execAdcAIYL s = .next t) : Kept s t := by
  obtain rfl := Host.Outcome.next.inj h
  exact .tick _ rfl rfl rfl

theorem execSubIYL_kept {s t : State} (h : execSubIYL s = .next t) : Kept s t := by
  obtain rfl := Host.Outcome.next.inj h
  exact .tick _ rfl rfl rfl

theorem execSbcAIYL_kept {s t : State} (h : execSbcAIYL s = .next t) : Kept s t := by
  obtain rfl := Host.Outcome.next.inj h
  exact .tick _ rfl rfl rfl

theorem execAndIYL_kept {s t : State} (h : execAndIYL s = .next t) : Kept s t := by
  obtain rfl := Host.Outcome.next.inj h
  exact .tick _ rfl rfl rfl

theorem execOrIYL_kept {s t : State} (h : execOrIYL s = .next t) : Kept s t := by
  obtain rfl := Host.Outcome.next.inj h
  exact .tick _ rfl rfl rfl

theorem execXorIYL_kept {s t : State} (h : execXorIYL s = .next t) : Kept s t := by
  obtain rfl := Host.Outcome.next.inj h
  exact .tick _ rfl rfl rfl

theorem execCpIYL_kept {s t : State} (h : execCpIYL s = .next t) : Kept s t := by
  obtain rfl := Host.Outcome.next.inj h
  exact .tick _ rfl rfl rfl

theorem execSllR_kept {r : Reg8} {s t : State} (h : execSllR r s = .next t) : Kept s t := by
  obtain rfl := Host.Outcome.next.inj h
  exact (Kept.fetched s _ _ _).trans (.shiftReg _ _ _)

theorem execSllIndHL_kept {s t : State} (h : execSllIndHL s = .next t) : Kept s t := by
  obtain rfl := Host.Outcome.next.inj h
  exact (Kept.fetched s _ _ _).trans (.shiftMem _ _ _)

theorem execSllIndIXd_kept {d : Byte} {s t : State} (h : execSllIndIXd d s = .next t) : Kept s t := by
  obtain rfl := Host.Outcome.next.inj h
  exact (Kept.fetched s _ _ _).trans (.shiftMem _ _ _)

theorem execSllIndIYd_kept {d : Byte} {s t : State} (h : execSllIndIYd d s = .next t) : Kept s t := by
  obtain rfl := Host.Outcome.next.inj h
  exact (Kept.fetched s _ _ _).trans (.shiftMem _ _ _)

theorem execRlcIndIXdR_kept {d : Byte} {r : Reg8} {s t : State} (h : execRlcIndIXdR d r s = .next t) : Kept s t := by
  obtain rfl := Host.Outcome.next.inj h
  exact (Kept.fetched s _ _ _).trans (.shiftMemReg _ _ _ _)

theorem execRlcIndIYdR_kept {d : Byte} {r : Reg8} {s t : State} (h : execRlcIndIYdR d r s = .next t) : Kept s t := by
  obtain rfl := Host.Outcome.next.inj h
  exact (Kept.fetched s _ _ _).trans (.shiftMemReg _ _ _ _)

theorem execRrcIndIXdR_kept {d : Byte} {r : Reg8} {s t : State} (h : execRrcIndIXdR d r s = .next t) : Kept s t := by
  obtain rfl := Host.Outcome.next.inj h
  exact (Kept.fetched s _ _ _).trans (.shiftMemReg _ _ _ _)

theorem execRrcIndIYdR_kept {d : Byte} {r : Reg8} {s t : State} (h : execRrcIndIYdR d r s = .next t) : Kept s t := by
  obtain rfl := Host.Outcome.next.inj h
  exact (Kept.fetched s _ _ _).trans (.shiftMemReg _ _ _ _)

theorem execRlIndIXdR_kept {d : Byte} {r : Reg8} {s t : State} (h : execRlIndIXdR d r s = .next t) : Kept s t := by
  obtain rfl := Host.Outcome.next.inj h
  exact (Kept.fetched s _ _ _).trans (.shiftMemReg _ _ _ _)

theorem execRlIndIYdR_kept {d : Byte} {r : Reg8} {s t : State} (h : execRlIndIYdR d r s = .next t) : Kept s t := by
  obtain rfl := Host.Outcome.next.inj h
  exact (Kept.fetched s _ _ _).trans (.shiftMemReg _ _ _ _)

theorem execRrIndIXdR_kept {d : Byte} {r : Reg8} {s t : State} (h : execRrIndIXdR d r s = .next t) : Kept s t := by
  obtain rfl := Host.Outcome.next.inj h
  exact (Kept.fetched s _ _ _).trans (.shiftMemReg _ _ _ _)

theorem execRrIndIYdR_kept {d : Byte} {r : Reg8} {s t : State} (h : execRrIndIYdR d r s = .next t) : Kept s t := by
  obtain rfl := Host.Outcome.next.inj h
  exact (Kept.fetched s _ _ _).trans (.shiftMemReg _ _ _ _)

theorem execSlaIndIXdR_kept {d : Byte} {r : Reg8} {s t : State} (h : execSlaIndIXdR d r s = .next t) : Kept s t := by
  obtain rfl := Host.Outcome.next.inj h
  exact (Kept.fetched s _ _ _).trans (.shiftMemReg _ _ _ _)

theorem execSlaIndIYdR_kept {d : Byte} {r : Reg8} {s t : State} (h : execSlaIndIYdR d r s = .next t) : Kept s t := by
  obtain rfl := Host.Outcome.next.inj h
  exact (Kept.fetched s _ _ _).trans (.shiftMemReg _ _ _ _)

theorem execSraIndIXdR_kept {d : Byte} {r : Reg8} {s t : State} (h : execSraIndIXdR d r s = .next t) : Kept s t := by
  obtain rfl := Host.Outcome.next.inj h
  exact (Kept.fetched s _ _ _).trans (.shiftMemReg _ _ _ _)

theorem execSraIndIYdR_kept {d : Byte} {r : Reg8} {s t : State} (h : execSraIndIYdR d r s = .next t) : Kept s t := by
  obtain rfl := Host.Outcome.next.inj h
  exact (Kept.fetched s _ _ _).trans (.shiftMemReg _ _ _ _)

theorem execSllIndIXdR_kept {d : Byte} {r : Reg8} {s t : State} (h : execSllIndIXdR d r s = .next t) : Kept s t := by
  obtain rfl := Host.Outcome.next.inj h
  exact (Kept.fetched s _ _ _).trans (.shiftMemReg _ _ _ _)

theorem execSllIndIYdR_kept {d : Byte} {r : Reg8} {s t : State} (h : execSllIndIYdR d r s = .next t) : Kept s t := by
  obtain rfl := Host.Outcome.next.inj h
  exact (Kept.fetched s _ _ _).trans (.shiftMemReg _ _ _ _)

theorem execSrlIndIXdR_kept {d : Byte} {r : Reg8} {s t : State} (h : execSrlIndIXdR d r s = .next t) : Kept s t := by
  obtain rfl := Host.Outcome.next.inj h
  exact (Kept.fetched s _ _ _).trans (.shiftMemReg _ _ _ _)

theorem execSrlIndIYdR_kept {d : Byte} {r : Reg8} {s t : State} (h : execSrlIndIYdR d r s = .next t) : Kept s t := by
  obtain rfl := Host.Outcome.next.inj h
  exact (Kept.fetched s _ _ _).trans (.shiftMemReg _ _ _ _)

theorem execResBIndIXdR_kept {b : BitVec 3} {d : Byte} {r : Reg8} {s t : State} (h : execResBIndIXdR b d r s = .next t) : Kept s t := by
  obtain rfl := Host.Outcome.next.inj h
  exact (Kept.fetched s _ _ _).trans (.modifyMemReg _ _ _ _)

theorem execResBIndIYdR_kept {b : BitVec 3} {d : Byte} {r : Reg8} {s t : State} (h : execResBIndIYdR b d r s = .next t) : Kept s t := by
  obtain rfl := Host.Outcome.next.inj h
  exact (Kept.fetched s _ _ _).trans (.modifyMemReg _ _ _ _)

theorem execSetBIndIXdR_kept {b : BitVec 3} {d : Byte} {r : Reg8} {s t : State} (h : execSetBIndIXdR b d r s = .next t) : Kept s t := by
  obtain rfl := Host.Outcome.next.inj h
  exact (Kept.fetched s _ _ _).trans (.modifyMemReg _ _ _ _)

theorem execSetBIndIYdR_kept {b : BitVec 3} {d : Byte} {r : Reg8} {s t : State} (h : execSetBIndIYdR b d r s = .next t) : Kept s t := by
  obtain rfl := Host.Outcome.next.inj h
  exact (Kept.fetched s _ _ _).trans (.modifyMemReg _ _ _ _)

theorem execBitBIndIXdMirror_kept {b : BitVec 3} {d : Byte} {r : Reg8} {s t : State} (h : execBitBIndIXdMirror b d r s = .next t) : Kept s t := by
  obtain rfl := Host.Outcome.next.inj h
  exact .tick _ rfl rfl rfl

theorem execBitBIndIYdMirror_kept {b : BitVec 3} {d : Byte} {r : Reg8} {s t : State} (h : execBitBIndIYdMirror b d r s = .next t) : Kept s t := by
  obtain rfl := Host.Outcome.next.inj h
  exact .tick _ rfl rfl rfl

theorem execInPortC_kept {s t : State} (h : execInPortC s = .next t) : Kept s t := by
  obtain rfl := Host.Outcome.next.inj h
  exact ((Kept.fetched s _ _ _).trans (State.portReadAt_kept _ _ _ _)).trans (.tick 0 rfl rfl rfl)

theorem execOutPortC0_kept {s t : State} (h : execOutPortC0 s = .next t) : Kept s t := by
  obtain rfl := Host.Outcome.next.inj h
  exact (Kept.fetched s _ _ _).trans (State.portWriteAt_kept _ _ _ _ _)

theorem execNegMirror_kept {k : BitVec 3} {s t : State} (h : execNegMirror k s = .next t) : Kept s t := by
  obtain rfl := Host.Outcome.next.inj h
  exact .tick _ rfl rfl rfl

theorem execRetnMirror_kept {k : BitVec 3} {s t : State} (h : execRetnMirror k s = .next t) : Kept s t := by
  obtain rfl := Host.Outcome.next.inj h
  exact .tick _ rfl rfl rfl

theorem execImMirror_kept {k : BitVec 3} {s t : State} (h : execImMirror k s = .next t) : Kept s t := by
  obtain rfl := Host.Outcome.next.inj h
  exact .tick _ rfl rfl rfl

theorem execNopEd77_kept {k : BitVec 1} {s t : State} (h : execNopEd77 k s = .next t) : Kept s t := by
  obtain rfl := Host.Outcome.next.inj h
  exact .tick _ rfl rfl rfl

theorem execNopEd_kept {op : Byte} {s t : State} (h : execNopEd op s = .next t) : Kept s t := by
  obtain rfl := Host.Outcome.next.inj h
  exact .tick _ rfl rfl rfl

theorem passedOver_kept {i : Instr} {s t : State} (h : passedOver i s = .next t) : Kept s t := by
  cases i
  case nop => exact execNop_kept h
  case exAFAF => exact execExAFAF_kept h
  case djnzE => exact execDjnzE_kept h
  case jrE => exact execJrE_kept h
  case jrNZE => exact execJrNZE_kept h
  case jrZE => exact execJrZE_kept h
  case jrNCE => exact execJrNCE_kept h
  case jrCE => exact execJrCE_kept h
  case ldDdNn => exact execLdDdNn_kept h
  case ldIndBCA => exact execLdIndBCA_kept h
  case ldIndDEA => exact execLdIndDEA_kept h
  case ldIndNnA => exact execLdIndNnA_kept h
  case ldAIndBC => exact execLdAIndBC_kept h
  case ldAIndDE => exact execLdAIndDE_kept h
  case ldAIndNn => exact execLdAIndNn_kept h
  case incSs => exact execIncSs_kept h
  case decSs => exact execDecSs_kept h
  case incR => exact execIncR_kept h
  case decR => exact execDecR_kept h
  case ldRN => exact execLdRN_kept h
  case rlca => exact execRlca_kept h
  case rrca => exact execRrca_kept h
  case rla => exact execRla_kept h
  case rra => exact execRra_kept h
  case daa => exact execDaa_kept h
  case cpl => exact execCpl_kept h
  case scf => exact execScf_kept h
  case ccf => exact execCcf_kept h
  case ldRR => exact execLdRR_kept h
  case halt => exact execHalt_kept h
  case addAR => exact execAddAR_kept h
  case addAN => exact execAddAN_kept h
  case adcAR => exact execAdcAR_kept h
  case adcAN => exact execAdcAN_kept h
  case subR => exact execSubR_kept h
  case subN => exact execSubN_kept h
  case sbcAR => exact execSbcAR_kept h
  case sbcAN => exact execSbcAN_kept h
  case andR => exact execAndR_kept h
  case andN => exact execAndN_kept h
  case xorR => exact execXorR_kept h
  case xorN => exact execXorN_kept h
  case orR => exact execOrR_kept h
  case orN => exact execOrN_kept h
  case cpR => exact execCpR_kept h
  case cpN => exact execCpN_kept h
  case retCc => exact execRetCc_kept h
  case popQq => exact execPopQq_kept h
  case ret => exact execRet_kept h
  case exx => exact execExx_kept h
  case jpCcNn => exact execJpCcNn_kept h
  case jpNn => exact execJpNn_kept h
  case outPortNA => exact execOutPortNA_kept h
  case inAPortN => exact execInAPortN_kept h
  case exDEHL => exact execExDEHL_kept h
  case di => exact execDi_kept h
  case ei => exact execEi_kept h
  case callCcNn => exact execCallCcNn_kept h
  case pushQq => exact execPushQq_kept h
  case callNn => exact execCallNn_kept h
  case rstP => exact execRstP_kept h
  all_goals cases h

theorem passPrefix_kept {i : Instr} {s t : State} (h : passPrefix i s = .next t) : Kept s t := by
  unfold passPrefix at h
  split at h
  · exact (Kept.fetched s 1 1 4).trans (passedOver_kept h)
  · cases h

theorem overridePrefix_kept (s : State) : Kept s (overridePrefix s) := .holdOff rfl (Nat.le_add_right _ _) rfl

/-- What an instruction can do to the machine as a whole. -/
theorem exec_kept {i : Instr} {s t : State} (h : exec i s = .next t) : Kept s t := by
  cases i
  case nop => exact execNop_kept h
  case exAFAF => exact execExAFAF_kept h
  case djnzE => exact execDjnzE_kept h
  case jrE => exact execJrE_kept h
  case jrNZE => exact execJrNZE_kept h
  case jrZE => exact execJrZE_kept h
  case jrNCE => exact execJrNCE_kept h
  case jrCE => exact execJrCE_kept h
  case ldDdNn => exact execLdDdNn_kept h
  case addHLSs => exact execAddHLSs_kept h
  case ldIndBCA => exact execLdIndBCA_kept h
  case ldIndDEA => exact execLdIndDEA_kept h
  case ldIndNnHL => exact execLdIndNnHL_kept h
  case ldIndNnA => exact execLdIndNnA_kept h
  case ldAIndBC => exact execLdAIndBC_kept h
  case ldAIndDE => exact execLdAIndDE_kept h
  case ldHLIndNn => exact execLdHLIndNn_kept h
  case ldAIndNn => exact execLdAIndNn_kept h
  case incSs => exact execIncSs_kept h
  case decSs => exact execDecSs_kept h
  case incR => exact execIncR_kept h
  case incIndHL => exact execIncIndHL_kept h
  case decR => exact execDecR_kept h
  case decIndHL => exact execDecIndHL_kept h
  case ldRN => exact execLdRN_kept h
  case ldIndHLN => exact execLdIndHLN_kept h
  case rlca => exact execRlca_kept h
  case rrca => exact execRrca_kept h
  case rla => exact execRla_kept h
  case rra => exact execRra_kept h
  case daa => exact execDaa_kept h
  case cpl => exact execCpl_kept h
  case scf => exact execScf_kept h
  case ccf => exact execCcf_kept h
  case ldRR => exact execLdRR_kept h
  case ldRIndHL => exact execLdRIndHL_kept h
  case ldIndHLR => exact execLdIndHLR_kept h
  case halt => exact execHalt_kept h
  case addAR => exact execAddAR_kept h
  case addAN => exact execAddAN_kept h
  case addAIndHL => exact execAddAIndHL_kept h
  case adcAR => exact execAdcAR_kept h
  case adcAN => exact execAdcAN_kept h
  case adcAIndHL => exact execAdcAIndHL_kept h
  case subR => exact execSubR_kept h
  case subN => exact execSubN_kept h
  case subIndHL => exact execSubIndHL_kept h
  case sbcAR => exact execSbcAR_kept h
  case sbcAN => exact execSbcAN_kept h
  case sbcAIndHL => exact execSbcAIndHL_kept h
  case andR => exact execAndR_kept h
  case andN => exact execAndN_kept h
  case andIndHL => exact execAndIndHL_kept h
  case xorR => exact execXorR_kept h
  case xorN => exact execXorN_kept h
  case xorIndHL => exact execXorIndHL_kept h
  case orR => exact execOrR_kept h
  case orN => exact execOrN_kept h
  case orIndHL => exact execOrIndHL_kept h
  case cpR => exact execCpR_kept h
  case cpN => exact execCpN_kept h
  case cpIndHL => exact execCpIndHL_kept h
  case retCc => exact execRetCc_kept h
  case popQq => exact execPopQq_kept h
  case ret => exact execRet_kept h
  case exx => exact execExx_kept h
  case jpIndHL => exact execJpIndHL_kept h
  case ldSPHL => exact execLdSPHL_kept h
  case jpCcNn => exact execJpCcNn_kept h
  case jpNn => exact execJpNn_kept h
  case outPortNA => exact execOutPortNA_kept h
  case inAPortN => exact execInAPortN_kept h
  case exIndSPHL => exact execExIndSPHL_kept h
  case exDEHL => exact execExDEHL_kept h
  case di => exact execDi_kept h
  case ei => exact execEi_kept h
  case callCcNn => exact execCallCcNn_kept h
  case pushQq => exact execPushQq_kept h
  case callNn => exact execCallNn_kept h
  case rstP => exact execRstP_kept h
  case rlcR => exact execRlcR_kept h
  case rlcIndHL => exact execRlcIndHL_kept h
  case rrcR => exact execRrcR_kept h
  case rrcIndHL => exact execRrcIndHL_kept h
  case rlR => exact execRlR_kept h
  case rlIndHL => exact execRlIndHL_kept h
  case rrR => exact execRrR_kept h
  case rrIndHL => exact execRrIndHL_kept h
  case slaR => exact execSlaR_kept h
  case slaIndHL => exact execSlaIndHL_kept h
  case sraR => exact execSraR_kept h
  case sraIndHL => exact execSraIndHL_kept h
  case srlR => exact execSrlR_kept h
  case srlIndHL => exact execSrlIndHL_kept h
  case sllR => exact execSllR_kept h
  case sllIndHL => exact execSllIndHL_kept h
  case bitBR => exact execBitBR_kept h
  case bitBIndHL => exact execBitBIndHL_kept h
  case resBR => exact execResBR_kept h
  case resBIndHL => exact execResBIndHL_kept h
  case setBR => exact execSetBR_kept h
  case setBIndHL => exact execSetBIndHL_kept h
  case inRPortC => exact execInRPortC_kept h
  case inPortC => exact execInPortC_kept h
  case outPortCR => exact execOutPortCR_kept h
  case outPortC0 => exact execOutPortC0_kept h
  case sbcHLSs => exact execSbcHLSs_kept h
  case adcHLSs => exact execAdcHLSs_kept h
  case ldIndNnDd => exact execLdIndNnDd_kept h
  case ldDdIndNn => exact execLdDdIndNn_kept h
  case neg => exact execNeg_kept h
  case negMirror => exact execNegMirror_kept (k := 0) h
  case retn => exact execRetn_kept h
  case reti => exact execReti_kept h
  case retnMirror => exact execRetnMirror_kept (k := 0) h
  case im0 => exact execIm0_kept h
  case im1 => exact execIm1_kept h
  case im2 => exact execIm2_kept h
  case imMirror => exact execImMirror_kept h
  case ldIA => exact execLdIA_kept h
  case ldRA => exact execLdRA_kept h
  case ldAI => exact execLdAI_kept h
  case ldAR => exact execLdAR_kept h
  case rrd => exact execRrd_kept h
  case rld => exact execRld_kept h
  case nopEd77 => exact execNopEd77_kept (k := 0) h
  case ldi => exact execLdi_kept h
  case cpi => exact execCpi_kept h
  case ini => exact execIni_kept h
  case outi => exact execOuti_kept h
  case ldd => exact execLdd_kept h
  case cpd => exact execCpd_kept h
  case ind => exact execInd_kept h
  case outd => exact execOutd_kept h
  case ldir => exact execLdir_kept h
  case cpir => exact execCpir_kept h
  case inir => exact execInir_kept h
  case otir => exact execOtir_kept h
  case lddr => exact execLddr_kept h
  case cpdr => exact execCpdr_kept h
  case indr => exact execIndr_kept h
  case otdr => exact execOtdr_kept h
  case nopEd => exact execNopEd_kept (op := 0) h
  case ldIXNn => exact execLdIXNn_kept h
  case ldIndNnIX => exact execLdIndNnIX_kept h
  case ldIXIndNn => exact execLdIXIndNn_kept h
  case incIX => exact execIncIX_kept h
  case decIX => exact execDecIX_kept h
  case addIXPp => exact execAddIXPp_kept h
  case incIndIXd => exact execIncIndIXd_kept h
  case decIndIXd => exact execDecIndIXd_kept h
  case ldIndIXdN => exact execLdIndIXdN_kept h
  case ldRIndIXd => exact execLdRIndIXd_kept h
  case ldIndIXdR => exact execLdIndIXdR_kept h
  case addAIndIXd => exact execAddAIndIXd_kept h
  case adcAIndIXd => exact execAdcAIndIXd_kept h
  case subIndIXd => exact execSubIndIXd_kept h
  case sbcAIndIXd => exact execSbcAIndIXd_kept h
  case andIndIXd => exact execAndIndIXd_kept h
  case xorIndIXd => exact execXorIndIXd_kept h
  case orIndIXd => exact execOrIndIXd_kept h
  case cpIndIXd => exact execCpIndIXd_kept h
  case popIX => exact execPopIX_kept h
  case exIndSPIX => exact execExIndSPIX_kept h
  case pushIX => exact execPushIX_kept h
  case jpIndIX => exact execJpIndIX_kept h
  case ldSPIX => exact execLdSPIX_kept h
  case incIXH => exact execIncIXH_kept h
  case decIXH => exact execDecIXH_kept h
  case ldIXHN => exact execLdIXHN_kept h
  case incIXL => exact execIncIXL_kept h
  case decIXL => exact execDecIXL_kept h
  case ldIXLN => exact execLdIXLN_kept h
  case ldPPIX => exact execLdPPIX_kept h
  case addAIXH => exact execAddAIXH_kept h
  case addAIXL => exact execAddAIXL_kept h
  case adcAIXH => exact execAdcAIXH_kept h
  case adcAIXL => exact execAdcAIXL_kept h
  case subIXH => exact execSubIXH_kept h
  case subIXL => exact execSubIXL_kept h
  case sbcAIXH => exact execSbcAIXH_kept h
  case sbcAIXL => exact execSbcAIXL_kept h
  case andIXH => exact execAndIXH_kept h
  case andIXL => exact execAndIXL_kept h
  case xorIXH => exact execXorIXH_kept h
  case xorIXL => exact execXorIXL_kept h
  case orIXH => exact execOrIXH_kept h
  case orIXL => exact execOrIXL_kept h
  case cpIXH => exact execCpIXH_kept h
  case cpIXL => exact execCpIXL_kept h
  case rlcIndIXd => exact execRlcIndIXd_kept h
  case rlcIndIXdR => exact execRlcIndIXdR_kept h
  case rrcIndIXd => exact execRrcIndIXd_kept h
  case rrcIndIXdR => exact execRrcIndIXdR_kept h
  case rlIndIXd => exact execRlIndIXd_kept h
  case rlIndIXdR => exact execRlIndIXdR_kept h
  case rrIndIXd => exact execRrIndIXd_kept h
  case rrIndIXdR => exact execRrIndIXdR_kept h
  case slaIndIXd => exact execSlaIndIXd_kept h
  case slaIndIXdR => exact execSlaIndIXdR_kept h
  case sraIndIXd => exact execSraIndIXd_kept h
  case sraIndIXdR => exact execSraIndIXdR_kept h
  case srlIndIXd => exact execSrlIndIXd_kept h
  case srlIndIXdR => exact execSrlIndIXdR_kept h
  case sllIndIXd => exact execSllIndIXd_kept h
  case sllIndIXdR => exact execSllIndIXdR_kept h
  case bitBIndIXd => exact execBitBIndIXd_kept h
  case bitBIndIXdMirror => exact execBitBIndIXdMirror_kept (r := .a) h
  case resBIndIXd => exact execResBIndIXd_kept h
  case resBIndIXdR => exact execResBIndIXdR_kept h
  case setBIndIXd => exact execSetBIndIXd_kept h
  case setBIndIXdR => exact execSetBIndIXdR_kept h
  case ddPass => exact passPrefix_kept h
  case ddOverride => obtain rfl := Host.Outcome.next.inj h; exact overridePrefix_kept s
  case ldIYNn => exact execLdIYNn_kept h
  case ldIndNnIY => exact execLdIndNnIY_kept h
  case ldIYIndNn => exact execLdIYIndNn_kept h
  case incIY => exact execIncIY_kept h
  case decIY => exact execDecIY_kept h
  case addIYRr => exact execAddIYRr_kept h
  case incIndIYd => exact execIncIndIYd_kept h
  case decIndIYd => exact execDecIndIYd_kept h
  case ldIndIYdN => exact execLdIndIYdN_kept h
  case ldRIndIYd => exact execLdRIndIYd_kept h
  case ldIndIYdR => exact execLdIndIYdR_kept h
  case addAIndIYd => exact execAddAIndIYd_kept h
  case adcAIndIYd => exact execAdcAIndIYd_kept h
  case subIndIYd => exact execSubIndIYd_kept h
  case sbcAIndIYd => exact execSbcAIndIYd_kept h
  case andIndIYd => exact execAndIndIYd_kept h
  case xorIndIYd => exact execXorIndIYd_kept h
  case orIndIYd => exact execOrIndIYd_kept h
  case cpIndIYd => exact execCpIndIYd_kept h
  case popIY => exact execPopIY_kept h
  case exIndSPIY => exact execExIndSPIY_kept h
  case pushIY => exact execPushIY_kept h
  case jpIndIY => exact execJpIndIY_kept h
  case ldSPIY => exact execLdSPIY_kept h
  case incIYH => exact execIncIYH_kept h
  case decIYH => exact execDecIYH_kept h
  case ldIYHN => exact execLdIYHN_kept h
  case incIYL => exact execIncIYL_kept h
  case decIYL => exact execDecIYL_kept h
  case ldIYLN => exact execLdIYLN_kept h
  case ldPPIY => exact execLdPPIY_kept h
  case addAIYH => exact execAddAIYH_kept h
  case addAIYL => exact execAddAIYL_kept h
  case adcAIYH => exact execAdcAIYH_kept h
  case adcAIYL => exact execAdcAIYL_kept h
  case subIYH => exact execSubIYH_kept h
  case subIYL => exact execSubIYL_kept h
  case sbcAIYH => exact execSbcAIYH_kept h
  case sbcAIYL => exact execSbcAIYL_kept h
  case andIYH => exact execAndIYH_kept h
  case andIYL => exact execAndIYL_kept h
  case xorIYH => exact execXorIYH_kept h
  case xorIYL => exact execXorIYL_kept h
  case orIYH => exact execOrIYH_kept h
  case orIYL => exact execOrIYL_kept h
  case cpIYH => exact execCpIYH_kept h
  case cpIYL => exact execCpIYL_kept h
  case rlcIndIYd => exact execRlcIndIYd_kept h
  case rlcIndIYdR => exact execRlcIndIYdR_kept h
  case rrcIndIYd => exact execRrcIndIYd_kept h
  case rrcIndIYdR => exact execRrcIndIYdR_kept h
  case rlIndIYd => exact execRlIndIYd_kept h
  case rlIndIYdR => exact execRlIndIYdR_kept h
  case rrIndIYd => exact execRrIndIYd_kept h
  case rrIndIYdR => exact execRrIndIYdR_kept h
  case slaIndIYd => exact execSlaIndIYd_kept h
  case slaIndIYdR => exact execSlaIndIYdR_kept h
  case sraIndIYd => exact execSraIndIYd_kept h
  case sraIndIYdR => exact execSraIndIYdR_kept h
  case srlIndIYd => exact execSrlIndIYd_kept h
  case srlIndIYdR => exact execSrlIndIYdR_kept h
  case sllIndIYd => exact execSllIndIYd_kept h
  case sllIndIYdR => exact execSllIndIYdR_kept h
  case bitBIndIYd => exact execBitBIndIYd_kept h
  case bitBIndIYdMirror => exact execBitBIndIYdMirror_kept (r := .a) h
  case resBIndIYd => exact execResBIndIYd_kept h
  case resBIndIYdR => exact execResBIndIYdR_kept h
  case setBIndIYd => exact execSetBIndIYd_kept h
  case setBIndIYdR => exact execSetBIndIYdR_kept h
  case fdPass => exact passPrefix_kept h
  case fdOverride => obtain rfl := Host.Outcome.next.inj h; exact overridePrefix_kept s

end Sys2Proof.Machine
end

