-- ==== Sys2Proof/Laws/Frame.lean ====
section
/-! SUPPORT. The frames of the shared operations as equations: what a store, a push and a port access change, and nothing else; and the
bytes of a word. -/

namespace Sys2Proof.Machine

/-! ### Words and bytes -/

theorem mkWord_toNat (hi lo : Byte) : (mkWord hi lo).toNat = hi.toNat * 256 + lo.toNat := by
  have h := BitVec.toNat_append hi lo
  rw [← Nat.shiftLeft_add_eq_or_of_lt (by omega), Nat.shiftLeft_eq] at h
  exact h

theorem loByte_mkWord (hi lo : Byte) : loByte (mkWord hi lo) = lo := by
  apply BitVec.eq_of_toNat_eq
  rw [loByte, BitVec.extractLsb'_toNat, mkWord_toNat]
  simp; omega

theorem hiByte_mkWord (hi lo : Byte) : hiByte (mkWord hi lo) = hi := by
  apply BitVec.eq_of_toNat_eq
  rw [hiByte, BitVec.extractLsb'_toNat, mkWord_toNat]
  simp [Nat.shiftRight_eq_div_pow]; omega

theorem mkWord_bytes (w : Word) : mkWord (hiByte w) (loByte w) = w := by
  simp [BitVec.extractLsb'_append_extractLsb'_eq_extractLsb']

/-! ### Stores and pushes -/

/-- A store changes RAM only. -/
theorem State.memWrite_eq (s : State) (addr : Word) (v : Byte) :
    s.memWrite addr v = { s with ram := (s.memWrite addr v).ram } := by
  unfold State.memWrite; split <;> rfl

/-- Two stores change RAM only. -/
theorem State.memWrite_memWrite_eq (s : State) (a b : Word) (x y : Byte) :
    (s.memWrite a x).memWrite b y = { s with ram := ((s.memWrite a x).memWrite b y).ram } := by
  rw [State.memWrite_eq (s.memWrite a x), s.memWrite_eq]

/-- A store depends on the paging and on RAM, and on no register. -/
theorem State.memWrite_congr {s u : State} (hp : u.p7FFD = s.p7FFD) (hd : u.dos = s.dos) (hc : u.cfg = s.cfg) (hr : u.ram = s.ram)
    (addr : Word) (v : Byte) : u.memWrite addr v = { u with ram := (s.memWrite addr v).ram } := by
  unfold State.memWrite
  rw [State.place_congr hp hd hc]
  split <;> rw [← hr]

/-- Two neighbouring addresses never lead to one cell of RAM. -/
theorem State.place_add_one_ne {s : State} {addr : Word} {k : Nat} (h : s.place addr = .ram k) : s.place (addr + 1) ≠ .ram k := by
  have off : ∀ {a : Word}, s.place a = .ram k → k % 16384 = a.toNat % 16384 := by
    intro a h
    have hb : (a.extractLsb' 0 14).toNat = a.toNat % 16384 := by simp [BitVec.extractLsb'_toNat]
    unfold State.place at h
    split at h <;> simp only [cellKey, Place.ram.injEq, reduceCtorEq] at h <;> omega
  intro h2
  have h3 := off h
  have h4 := off h2
  rw [BitVec.toNat_add] at h4
  simp at h4
  omega

/-- A push moves SP down by 2 and stores the high byte above the low byte. -/
theorem State.push16_eq (s : State) (v : Word) :
    s.push16 v =
      ({ s with sp := s.sp - 2 }.memWrite (s.sp - 2 + 1) (hiByte v)).memWrite (s.sp - 2) (loByte v) := by
  have h1 : s.sp - 2 + 1 = s.sp - 1 := by bv_omega
  have h2 : s.sp - 1 - 1 = s.sp - 2 := by bv_omega
  have e : ({ { s with sp := s.sp - 1 }.memWrite (s.sp - 1) (hiByte v) with
      sp := ({ s with sp := s.sp - 1 }.memWrite (s.sp - 1) (hiByte v)).sp - 1 } : State) =
      { s with sp := s.sp - 2 }.memWrite (s.sp - 1) (hiByte v) := by
    rw [State.memWrite_congr (s := s) (u := { s with sp := s.sp - 1 }) rfl rfl rfl rfl,
      State.memWrite_congr (s := s) (u := { s with sp := s.sp - 2 }) rfl rfl rfl rfl]
    show ({ s with sp := s.sp - 1 - 1, ram := _ } : State) = _
    rw [h2]
  rw [h1, ← e]
  unfold State.push16
  simp only [State.memWrite_sp, h2]

/-! ### Port accesses -/

/-- A timed port read gives the byte the port gives at that time; the tape, the disk system and the count of free values are as the port
leaves them, and the rest is as before but for the time. -/
theorem State.portReadAt_eq (s : State) (p : Word) (delay total : Nat) :
    s.portReadAt p delay total =
      let r := { s with t := s.t + delay }.portRead p
      (r.1, { s with
        tape := r.2.tape
        disks := r.2.disks
        drives := r.2.drives
        wd := r.2.wd
        draws := r.2.draws
        t := s.t + total }) := by
  unfold State.portReadAt
  have h := State.portRead_frame { s with t := s.t + delay } p
  generalize State.portRead { s with t := s.t + delay } p = r at h ⊢
  obtain ⟨x, y⟩ := r
  dsimp only at h ⊢
  rw [h]

/-- A timed port write changes the latches, the disk system and the count of free values as the port does at that time, and else only
the time. -/
theorem State.portWriteAt_eq (s : State) (p : Word) (v : Byte) (delay total : Nat) :
    s.portWriteAt p v delay total =
      let u := { s with t := s.t + delay }.portWrite p v
      { s with
        pFE := u.pFE
        p7FFD := u.p7FFD
        p1FFD := u.p1FFD
        disks := u.disks
        drives := u.drives
        wd := u.wd
        draws := u.draws
        t := s.t + total } := by
  unfold State.portWriteAt
  have h := State.portWrite_frame { s with t := s.t + delay } p v
  generalize State.portWrite { s with t := s.t + delay } p v = r at h ⊢
  rw [h]

end Sys2Proof.Machine
end

