-- ==== Sys2Proof/Laws/PerInstr.lean ====
section
/-! SUPPORT. One lemma per constructor of `Instr` for each family of LAWS.json. `EncodeLength`: a well-formed instruction takes one to
four bytes (30_encoding R181, R182). -/

namespace Sys2Proof.Laws.EncodeLength

/-- A well-formed instruction takes one to four bytes. -/
def Statement (i : Instr) : Prop := i.wf = true → 1 ≤ (encode i).length ∧ (encode i).length ≤ 4

/-- An instruction that a prefix passes over takes one to three bytes. -/
theorem passable_length {i : Instr} (h : i.passable = true) : (encode i).length ≤ 3 := by
  cases i <;> first | exact Nat.le_of_ble_eq_true rfl | cases h

theorem djnzE (e : Byte) : Statement (.djnzE e) := fun _ =>
  ⟨Nat.le_of_ble_eq_true rfl, Nat.le_of_ble_eq_true rfl⟩
theorem jrE (e : Byte) : Statement (.jrE e) := fun _ =>
  ⟨Nat.le_of_ble_eq_true rfl, Nat.le_of_ble_eq_true rfl⟩
theorem jrNZE (e : Byte) : Statement (.jrNZE e) := fun _ =>
  ⟨Nat.le_of_ble_eq_true rfl, Nat.le_of_ble_eq_true rfl⟩
theorem jrZE (e : Byte) : Statement (.jrZE e) := fun _ =>
  ⟨Nat.le_of_ble_eq_true rfl, Nat.le_of_ble_eq_true rfl⟩
theorem jrNCE (e : Byte) : Statement (.jrNCE e) := fun _ =>
  ⟨Nat.le_of_ble_eq_true rfl, Nat.le_of_ble_eq_true rfl⟩
theorem jrCE (e : Byte) : Statement (.jrCE e) := fun _ =>
  ⟨Nat.le_of_ble_eq_true rfl, Nat.le_of_ble_eq_true rfl⟩
theorem ldDdNn (dd : PairSP) (nn : Word) : Statement (.ldDdNn dd nn) := fun _ =>
  ⟨Nat.le_of_ble_eq_true rfl, Nat.le_of_ble_eq_true rfl⟩
theorem addHLSs (ss : PairSP) : Statement (.addHLSs ss) := fun _ =>
  ⟨Nat.le_of_ble_eq_true rfl, Nat.le_of_ble_eq_true rfl⟩
theorem ldIndNnHL (nn : Word) : Statement (.ldIndNnHL nn) := fun _ =>
  ⟨Nat.le_of_ble_eq_true rfl, Nat.le_of_ble_eq_true rfl⟩
theorem ldIndNnA (nn : Word) : Statement (.ldIndNnA nn) := fun _ =>
  ⟨Nat.le_of_ble_eq_true rfl, Nat.le_of_ble_eq_true rfl⟩
theorem ldHLIndNn (nn : Word) : Statement (.ldHLIndNn nn) := fun _ =>
  ⟨Nat.le_of_ble_eq_true rfl, Nat.le_of_ble_eq_true rfl⟩
theorem ldAIndNn (nn : Word) : Statement (.ldAIndNn nn) := fun _ =>
  ⟨Nat.le_of_ble_eq_true rfl, Nat.le_of_ble_eq_true rfl⟩
theorem incSs (ss : PairSP) : Statement (.incSs ss) := fun _ =>
  ⟨Nat.le_of_ble_eq_true rfl, Nat.le_of_ble_eq_true rfl⟩
theorem decSs (ss : PairSP) : Statement (.decSs ss) := fun _ =>
  ⟨Nat.le_of_ble_eq_true rfl, Nat.le_of_ble_eq_true rfl⟩
theorem incR (r : Reg8) : Statement (.incR r) := fun _ =>
  ⟨Nat.le_of_ble_eq_true rfl, Nat.le_of_ble_eq_true rfl⟩
theorem decR (r : Reg8) : Statement (.decR r) := fun _ =>
  ⟨Nat.le_of_ble_eq_true rfl, Nat.le_of_ble_eq_true rfl⟩
theorem ldRN (r : Reg8) (n : Byte) : Statement (.ldRN r n) := fun _ =>
  ⟨Nat.le_of_ble_eq_true rfl, Nat.le_of_ble_eq_true rfl⟩
theorem ldIndHLN (n : Byte) : Statement (.ldIndHLN n) := fun _ =>
  ⟨Nat.le_of_ble_eq_true rfl, Nat.le_of_ble_eq_true rfl⟩
theorem ldRR (dst : Reg8) (src : Reg8) : Statement (.ldRR dst src) := fun _ =>
  ⟨Nat.le_of_ble_eq_true rfl, Nat.le_of_ble_eq_true rfl⟩
theorem ldRIndHL (r : Reg8) : Statement (.ldRIndHL r) := fun _ =>
  ⟨Nat.le_of_ble_eq_true rfl, Nat.le_of_ble_eq_true rfl⟩
theorem ldIndHLR (r : Reg8) : Statement (.ldIndHLR r) := fun _ =>
  ⟨Nat.le_of_ble_eq_true rfl, Nat.le_of_ble_eq_true rfl⟩
theorem addAR (r : Reg8) : Statement (.addAR r) := fun _ =>
  ⟨Nat.le_of_ble_eq_true rfl, Nat.le_of_ble_eq_true rfl⟩
theorem addAN (n : Byte) : Statement (.addAN n) := fun _ =>
  ⟨Nat.le_of_ble_eq_true rfl, Nat.le_of_ble_eq_true rfl⟩
theorem adcAR (r : Reg8) : Statement (.adcAR r) := fun _ =>
  ⟨Nat.le_of_ble_eq_true rfl, Nat.le_of_ble_eq_true rfl⟩
theorem adcAN (n : Byte) : Statement (.adcAN n) := fun _ =>
  ⟨Nat.le_of_ble_eq_true rfl, Nat.le_of_ble_eq_true rfl⟩
theorem subR (r : Reg8) : Statement (.subR r) := fun _ =>
  ⟨Nat.le_of_ble_eq_true rfl, Nat.le_of_ble_eq_true rfl⟩
theorem subN (n : Byte) : Statement (.subN n) := fun _ =>
  ⟨Nat.le_of_ble_eq_true rfl, Nat.le_of_ble_eq_true rfl⟩
theorem sbcAR (r : Reg8) : Statement (.sbcAR r) := fun _ =>
  ⟨Nat.le_of_ble_eq_true rfl, Nat.le_of_ble_eq_true rfl⟩
theorem sbcAN (n : Byte) : Statement (.sbcAN n) := fun _ =>
  ⟨Nat.le_of_ble_eq_true rfl, Nat.le_of_ble_eq_true rfl⟩
theorem andR (r : Reg8) : Statement (.andR r) := fun _ =>
  ⟨Nat.le_of_ble_eq_true rfl, Nat.le_of_ble_eq_true rfl⟩
theorem andN (n : Byte) : Statement (.andN n) := fun _ =>
  ⟨Nat.le_of_ble_eq_true rfl, Nat.le_of_ble_eq_true rfl⟩
theorem xorR (r : Reg8) : Statement (.xorR r) := fun _ =>
  ⟨Nat.le_of_ble_eq_true rfl, Nat.le_of_ble_eq_true rfl⟩
theorem xorN (n : Byte) : Statement (.xorN n) := fun _ =>
  ⟨Nat.le_of_ble_eq_true rfl, Nat.le_of_ble_eq_true rfl⟩
theorem orR (r : Reg8) : Statement (.orR r) := fun _ =>
  ⟨Nat.le_of_ble_eq_true rfl, Nat.le_of_ble_eq_true rfl⟩
theorem orN (n : Byte) : Statement (.orN n) := fun _ =>
  ⟨Nat.le_of_ble_eq_true rfl, Nat.le_of_ble_eq_true rfl⟩
theorem cpR (r : Reg8) : Statement (.cpR r) := fun _ =>
  ⟨Nat.le_of_ble_eq_true rfl, Nat.le_of_ble_eq_true rfl⟩
theorem cpN (n : Byte) : Statement (.cpN n) := fun _ =>
  ⟨Nat.le_of_ble_eq_true rfl, Nat.le_of_ble_eq_true rfl⟩
theorem retCc (cc : Cond) : Statement (.retCc cc) := fun _ =>
  ⟨Nat.le_of_ble_eq_true rfl, Nat.le_of_ble_eq_true rfl⟩
theorem popQq (qq : PairAF) : Statement (.popQq qq) := fun _ =>
  ⟨Nat.le_of_ble_eq_true rfl, Nat.le_of_ble_eq_true rfl⟩
theorem jpCcNn (cc : Cond) (nn : Word) : Statement (.jpCcNn cc nn) := fun _ =>
  ⟨Nat.le_of_ble_eq_true rfl, Nat.le_of_ble_eq_true rfl⟩
theorem jpNn (nn : Word) : Statement (.jpNn nn) := fun _ =>
  ⟨Nat.le_of_ble_eq_true rfl, Nat.le_of_ble_eq_true rfl⟩
theorem outPortNA (n : Byte) : Statement (.outPortNA n) := fun _ =>
  ⟨Nat.le_of_ble_eq_true rfl, Nat.le_of_ble_eq_true rfl⟩
theorem inAPortN (n : Byte) : Statement (.inAPortN n) := fun _ =>
  ⟨Nat.le_of_ble_eq_true rfl, Nat.le_of_ble_eq_true rfl⟩
theorem callCcNn (cc : Cond) (nn : Word) : Statement (.callCcNn cc nn) := fun _ =>
  ⟨Nat.le_of_ble_eq_true rfl, Nat.le_of_ble_eq_true rfl⟩
theorem pushQq (qq : PairAF) : Statement (.pushQq qq) := fun _ =>
  ⟨Nat.le_of_ble_eq_true rfl, Nat.le_of_ble_eq_true rfl⟩
theorem callNn (nn : Word) : Statement (.callNn nn) := fun _ =>
  ⟨Nat.le_of_ble_eq_true rfl, Nat.le_of_ble_eq_true rfl⟩
theorem rstP (p : BitVec 3) : Statement (.rstP p) := fun _ =>
  ⟨Nat.le_of_ble_eq_true rfl, Nat.le_of_ble_eq_true rfl⟩
theorem rlcR (r : Reg8) : Statement (.rlcR r) := fun _ =>
  ⟨Nat.le_of_ble_eq_true rfl, Nat.le_of_ble_eq_true rfl⟩
theorem rrcR (r : Reg8) : Statement (.rrcR r) := fun _ =>
  ⟨Nat.le_of_ble_eq_true rfl, Nat.le_of_ble_eq_true rfl⟩
theorem rlR (r : Reg8) : Statement (.rlR r) := fun _ =>
  ⟨Nat.le_of_ble_eq_true rfl, Nat.le_of_ble_eq_true rfl⟩
theorem rrR (r : Reg8) : Statement (.rrR r) := fun _ =>
  ⟨Nat.le_of_ble_eq_true rfl, Nat.le_of_ble_eq_true rfl⟩
theorem slaR (r : Reg8) : Statement (.slaR r) := fun _ =>
  ⟨Nat.le_of_ble_eq_true rfl, Nat.le_of_ble_eq_true rfl⟩
theorem sraR (r : Reg8) : Statement (.sraR r) := fun _ =>
  ⟨Nat.le_of_ble_eq_true rfl, Nat.le_of_ble_eq_true rfl⟩
theorem srlR (r : Reg8) : Statement (.srlR r) := fun _ =>
  ⟨Nat.le_of_ble_eq_true rfl, Nat.le_of_ble_eq_true rfl⟩
theorem sllR (r : Reg8) : Statement (.sllR r) := fun _ =>
  ⟨Nat.le_of_ble_eq_true rfl, Nat.le_of_ble_eq_true rfl⟩
theorem bitBR (b : BitVec 3) (r : Reg8) : Statement (.bitBR b r) := fun _ =>
  ⟨Nat.le_of_ble_eq_true rfl, Nat.le_of_ble_eq_true rfl⟩
theorem bitBIndHL (b : BitVec 3) : Statement (.bitBIndHL b) := fun _ =>
  ⟨Nat.le_of_ble_eq_true rfl, Nat.le_of_ble_eq_true rfl⟩
theorem resBR (b : BitVec 3) (r : Reg8) : Statement (.resBR b r) := fun _ =>
  ⟨Nat.le_of_ble_eq_true rfl, Nat.le_of_ble_eq_true rfl⟩
theorem resBIndHL (b : BitVec 3) : Statement (.resBIndHL b) := fun _ =>
  ⟨Nat.le_of_ble_eq_true rfl, Nat.le_of_ble_eq_true rfl⟩
theorem setBR (b : BitVec 3) (r : Reg8) : Statement (.setBR b r) := fun _ =>
  ⟨Nat.le_of_ble_eq_true rfl, Nat.le_of_ble_eq_true rfl⟩
theorem setBIndHL (b : BitVec 3) : Statement (.setBIndHL b) := fun _ =>
  ⟨Nat.le_of_ble_eq_true rfl, Nat.le_of_ble_eq_true rfl⟩
theorem inRPortC (r : Reg8) : Statement (.inRPortC r) := fun _ =>
  ⟨Nat.le_of_ble_eq_true rfl, Nat.le_of_ble_eq_true rfl⟩
theorem outPortCR (r : Reg8) : Statement (.outPortCR r) := fun _ =>
  ⟨Nat.le_of_ble_eq_true rfl, Nat.le_of_ble_eq_true rfl⟩
theorem sbcHLSs (ss : PairSP) : Statement (.sbcHLSs ss) := fun _ =>
  ⟨Nat.le_of_ble_eq_true rfl, Nat.le_of_ble_eq_true rfl⟩
theorem adcHLSs (ss : PairSP) : Statement (.adcHLSs ss) := fun _ =>
  ⟨Nat.le_of_ble_eq_true rfl, Nat.le_of_ble_eq_true rfl⟩
theorem ldIndNnDd (nn : Word) (dd : PairSP) : Statement (.ldIndNnDd nn dd) := fun _ =>
  ⟨Nat.le_of_ble_eq_true rfl, Nat.le_of_ble_eq_true rfl⟩
theorem ldDdIndNn (dd : PairSP) (nn : Word) : Statement (.ldDdIndNn dd nn) := fun _ =>
  ⟨Nat.le_of_ble_eq_true rfl, Nat.le_of_ble_eq_true rfl⟩
theorem negMirror (k : BitVec 3) : Statement (.negMirror k) := fun _ =>
  ⟨Nat.le_of_ble_eq_true rfl, Nat.le_of_ble_eq_true rfl⟩
theorem retnMirror (k : BitVec 3) : Statement (.retnMirror k) := fun _ =>
  ⟨Nat.le_of_ble_eq_true rfl, Nat.le_of_ble_eq_true rfl⟩
theorem imMirror (k : BitVec 3) : Statement (.imMirror k) := fun _ =>
  ⟨Nat.le_of_ble_eq_true rfl, Nat.le_of_ble_eq_true rfl⟩
theorem nopEd77 (k : BitVec 1) : Statement (.nopEd77 k) := fun _ =>
  ⟨Nat.le_of_ble_eq_true rfl, Nat.le_of_ble_eq_true rfl⟩
theorem nopEd (op : Byte) : Statement (.nopEd op) := fun _ =>
  ⟨Nat.le_of_ble_eq_true rfl, Nat.le_of_ble_eq_true rfl⟩
theorem ldIXNn (nn : Word) : Statement (.ldIXNn nn) := fun _ =>
  ⟨Nat.le_of_ble_eq_true rfl, Nat.le_of_ble_eq_true rfl⟩
theorem ldIndNnIX (nn : Word) : Statement (.ldIndNnIX nn) := fun _ =>
  ⟨Nat.le_of_ble_eq_true rfl, Nat.le_of_ble_eq_true rfl⟩
theorem ldIXIndNn (nn : Word) : Statement (.ldIXIndNn nn) := fun _ =>
  ⟨Nat.le_of_ble_eq_true rfl, Nat.le_of_ble_eq_true rfl⟩
theorem addIXPp (pp : PairXY) : Statement (.addIXPp pp) := fun _ =>
  ⟨Nat.le_of_ble_eq_true rfl, Nat.le_of_ble_eq_true rfl⟩
theorem incIndIXd (d : Byte) : Statement (.incIndIXd d) := fun _ =>
  ⟨Nat.le_of_ble_eq_true rfl, Nat.le_of_ble_eq_true rfl⟩
theorem decIndIXd (d : Byte) : Statement (.decIndIXd d) := fun _ =>
  ⟨Nat.le_of_ble_eq_true rfl, Nat.le_of_ble_eq_true rfl⟩
theorem ldIndIXdN (d : Byte) (n : Byte) : Statement (.ldIndIXdN d n) := fun _ =>
  ⟨Nat.le_of_ble_eq_true rfl, Nat.le_of_ble_eq_true rfl⟩
theorem ldRIndIXd (r : Reg8) (d : Byte) : Statement (.ldRIndIXd r d) := fun _ =>
  ⟨Nat.le_of_ble_eq_true rfl, Nat.le_of_ble_eq_true rfl⟩
theorem ldIndIXdR (d : Byte) (r : Reg8) : Statement (.ldIndIXdR d r) := fun _ =>
  ⟨Nat.le_of_ble_eq_true rfl, Nat.le_of_ble_eq_true rfl⟩
theorem addAIndIXd (d : Byte) : Statement (.addAIndIXd d) := fun _ =>
  ⟨Nat.le_of_ble_eq_true rfl, Nat.le_of_ble_eq_true rfl⟩
theorem adcAIndIXd (d : Byte) : Statement (.adcAIndIXd d) := fun _ =>
  ⟨Nat.le_of_ble_eq_true rfl, Nat.le_of_ble_eq_true rfl⟩
theorem subIndIXd (d : Byte) : Statement (.subIndIXd d) := fun _ =>
  ⟨Nat.le_of_ble_eq_true rfl, Nat.le_of_ble_eq_true rfl⟩
theorem sbcAIndIXd (d : Byte) : Statement (.sbcAIndIXd d) := fun _ =>
  ⟨Nat.le_of_ble_eq_true rfl, Nat.le_of_ble_eq_true rfl⟩
theorem andIndIXd (d : Byte) : Statement (.andIndIXd d) := fun _ =>
  ⟨Nat.le_of_ble_eq_true rfl, Nat.le_of_ble_eq_true rfl⟩
theorem xorIndIXd (d : Byte) : Statement (.xorIndIXd d) := fun _ =>
  ⟨Nat.le_of_ble_eq_true rfl, Nat.le_of_ble_eq_true rfl⟩
theorem orIndIXd (d : Byte) : Statement (.orIndIXd d) := fun _ =>
  ⟨Nat.le_of_ble_eq_true rfl, Nat.le_of_ble_eq_true rfl⟩
theorem cpIndIXd (d : Byte) : Statement (.cpIndIXd d) := fun _ =>
  ⟨Nat.le_of_ble_eq_true rfl, Nat.le_of_ble_eq_true rfl⟩
theorem ldIXHN (n : Byte) : Statement (.ldIXHN n) := fun _ =>
  ⟨Nat.le_of_ble_eq_true rfl, Nat.le_of_ble_eq_true rfl⟩
theorem ldIXLN (n : Byte) : Statement (.ldIXLN n) := fun _ =>
  ⟨Nat.le_of_ble_eq_true rfl, Nat.le_of_ble_eq_true rfl⟩
theorem ldPPIX (dst : RegXY) (src : RegXY) : Statement (.ldPPIX dst src) := fun _ =>
  ⟨Nat.le_of_ble_eq_true rfl, Nat.le_of_ble_eq_true rfl⟩
theorem rlcIndIXd (d : Byte) : Statement (.rlcIndIXd d) := fun _ =>
  ⟨Nat.le_of_ble_eq_true rfl, Nat.le_of_ble_eq_true rfl⟩
theorem rlcIndIXdR (d : Byte) (r : Reg8) : Statement (.rlcIndIXdR d r) := fun _ =>
  ⟨Nat.le_of_ble_eq_true rfl, Nat.le_of_ble_eq_true rfl⟩
theorem rrcIndIXd (d : Byte) : Statement (.rrcIndIXd d) := fun _ =>
  ⟨Nat.le_of_ble_eq_true rfl, Nat.le_of_ble_eq_true rfl⟩
theorem rrcIndIXdR (d : Byte) (r : Reg8) : Statement (.rrcIndIXdR d r) := fun _ =>
  ⟨Nat.le_of_ble_eq_true rfl, Nat.le_of_ble_eq_true rfl⟩
theorem rlIndIXd (d : Byte) : Statement (.rlIndIXd d) := fun _ =>
  ⟨Nat.le_of_ble_eq_true rfl, Nat.le_of_ble_eq_true rfl⟩
theorem rlIndIXdR (d : Byte) (r : Reg8) : Statement (.rlIndIXdR d r) := fun _ =>
  ⟨Nat.le_of_ble_eq_true rfl, Nat.le_of_ble_eq_true rfl⟩
theorem rrIndIXd (d : Byte) : Statement (.rrIndIXd d) := fun _ =>
  ⟨Nat.le_of_ble_eq_true rfl, Nat.le_of_ble_eq_true rfl⟩
theorem rrIndIXdR (d : Byte) (r : Reg8) : Statement (.rrIndIXdR d r) := fun _ =>
  ⟨Nat.le_of_ble_eq_true rfl, Nat.le_of_ble_eq_true rfl⟩
theorem slaIndIXd (d : Byte) : Statement (.slaIndIXd d) := fun _ =>
  ⟨Nat.le_of_ble_eq_true rfl, Nat.le_of_ble_eq_true rfl⟩
theorem slaIndIXdR (d : Byte) (r : Reg8) : Statement (.slaIndIXdR d r) := fun _ =>
  ⟨Nat.le_of_ble_eq_true rfl, Nat.le_of_ble_eq_true rfl⟩
theorem sraIndIXd (d : Byte) : Statement (.sraIndIXd d) := fun _ =>
  ⟨Nat.le_of_ble_eq_true rfl, Nat.le_of_ble_eq_true rfl⟩
theorem sraIndIXdR (d : Byte) (r : Reg8) : Statement (.sraIndIXdR d r) := fun _ =>
  ⟨Nat.le_of_ble_eq_true rfl, Nat.le_of_ble_eq_true rfl⟩
theorem srlIndIXd (d : Byte) : Statement (.srlIndIXd d) := fun _ =>
  ⟨Nat.le_of_ble_eq_true rfl, Nat.le_of_ble_eq_true rfl⟩
theorem srlIndIXdR (d : Byte) (r : Reg8) : Statement (.srlIndIXdR d r) := fun _ =>
  ⟨Nat.le_of_ble_eq_true rfl, Nat.le_of_ble_eq_true rfl⟩
theorem sllIndIXd (d : Byte) : Statement (.sllIndIXd d) := fun _ =>
  ⟨Nat.le_of_ble_eq_true rfl, Nat.le_of_ble_eq_true rfl⟩
theorem sllIndIXdR (d : Byte) (r : Reg8) : Statement (.sllIndIXdR d r) := fun _ =>
  ⟨Nat.le_of_ble_eq_true rfl, Nat.le_of_ble_eq_true rfl⟩
theorem bitBIndIXd (b : BitVec 3) (d : Byte) : Statement (.bitBIndIXd b d) := fun _ =>
  ⟨Nat.le_of_ble_eq_true rfl, Nat.le_of_ble_eq_true rfl⟩
theorem bitBIndIXdMirror (b : BitVec 3) (d : Byte) (r : Reg8) : Statement (.bitBIndIXdMirror b d r) := fun _ =>
  ⟨Nat.le_of_ble_eq_true rfl, Nat.le_of_ble_eq_true rfl⟩
theorem resBIndIXd (b : BitVec 3) (d : Byte) : Statement (.resBIndIXd b d) := fun _ =>
  ⟨Nat.le_of_ble_eq_true rfl, Nat.le_of_ble_eq_true rfl⟩
theorem resBIndIXdR (b : BitVec 3) (d : Byte) (r : Reg8) : Statement (.resBIndIXdR b d r) := fun _ =>
  ⟨Nat.le_of_ble_eq_true rfl, Nat.le_of_ble_eq_true rfl⟩
theorem setBIndIXd (b : BitVec 3) (d : Byte) : Statement (.setBIndIXd b d) := fun _ =>
  ⟨Nat.le_of_ble_eq_true rfl, Nat.le_of_ble_eq_true rfl⟩
theorem setBIndIXdR (b : BitVec 3) (d : Byte) (r : Reg8) : Statement (.setBIndIXdR b d r) := fun _ =>
  ⟨Nat.le_of_ble_eq_true rfl, Nat.le_of_ble_eq_true rfl⟩
theorem ddPass (i : Instr) : Statement (.ddPass i) := fun h =>
  ⟨Nat.succ_le_succ (Nat.zero_le _), Nat.succ_le_succ (passable_length h)⟩
theorem ldIYNn (nn : Word) : Statement (.ldIYNn nn) := fun _ =>
  ⟨Nat.le_of_ble_eq_true rfl, Nat.le_of_ble_eq_true rfl⟩
theorem ldIndNnIY (nn : Word) : Statement (.ldIndNnIY nn) := fun _ =>
  ⟨Nat.le_of_ble_eq_true rfl, Nat.le_of_ble_eq_true rfl⟩
theorem ldIYIndNn (nn : Word) : Statement (.ldIYIndNn nn) := fun _ =>
  ⟨Nat.le_of_ble_eq_true rfl, Nat.le_of_ble_eq_true rfl⟩
theorem addIYRr (pp : PairXY) : Statement (.addIYRr pp) := fun _ =>
  ⟨Nat.le_of_ble_eq_true rfl, Nat.le_of_ble_eq_true rfl⟩
theorem incIndIYd (d : Byte) : Statement (.incIndIYd d) := fun _ =>
  ⟨Nat.le_of_ble_eq_true rfl, Nat.le_of_ble_eq_true rfl⟩
theorem decIndIYd (d : Byte) : Statement (.decIndIYd d) := fun _ =>
  ⟨Nat.le_of_ble_eq_true rfl, Nat.le_of_ble_eq_true rfl⟩
theorem ldIndIYdN (d : Byte) (n : Byte) : Statement (.ldIndIYdN d n) := fun _ =>
  ⟨Nat.le_of_ble_eq_true rfl, Nat.le_of_ble_eq_true rfl⟩
theorem ldRIndIYd (r : Reg8) (d : Byte) : Statement (.ldRIndIYd r d) := fun _ =>
  ⟨Nat.le_of_ble_eq_true rfl, Nat.le_of_ble_eq_true rfl⟩
theorem ldIndIYdR (d : Byte) (r : Reg8) : Statement (.ldIndIYdR d r) := fun _ =>
  ⟨Nat.le_of_ble_eq_true rfl, Nat.le_of_ble_eq_true rfl⟩
theorem addAIndIYd (d : Byte) : Statement (.addAIndIYd d) := fun _ =>
  ⟨Nat.le_of_ble_eq_true rfl, Nat.le_of_ble_eq_true rfl⟩
theorem adcAIndIYd (d : Byte) : Statement (.adcAIndIYd d) := fun _ =>
  ⟨Nat.le_of_ble_eq_true rfl, Nat.le_of_ble_eq_true rfl⟩
theorem subIndIYd (d : Byte) : Statement (.subIndIYd d) := fun _ =>
  ⟨Nat.le_of_ble_eq_true rfl, Nat.le_of_ble_eq_true rfl⟩
theorem sbcAIndIYd (d : Byte) : Statement (.sbcAIndIYd d) := fun _ =>
  ⟨Nat.le_of_ble_eq_true rfl, Nat.le_of_ble_eq_true rfl⟩
theorem andIndIYd (d : Byte) : Statement (.andIndIYd d) := fun _ =>
  ⟨Nat.le_of_ble_eq_true rfl, Nat.le_of_ble_eq_true rfl⟩
theorem xorIndIYd (d : Byte) : Statement (.xorIndIYd d) := fun _ =>
  ⟨Nat.le_of_ble_eq_true rfl, Nat.le_of_ble_eq_true rfl⟩
theorem orIndIYd (d : Byte) : Statement (.orIndIYd d) := fun _ =>
  ⟨Nat.le_of_ble_eq_true rfl, Nat.le_of_ble_eq_true rfl⟩
theorem cpIndIYd (d : Byte) : Statement (.cpIndIYd d) := fun _ =>
  ⟨Nat.le_of_ble_eq_true rfl, Nat.le_of_ble_eq_true rfl⟩
theorem ldIYHN (n : Byte) : Statement (.ldIYHN n) := fun _ =>
  ⟨Nat.le_of_ble_eq_true rfl, Nat.le_of_ble_eq_true rfl⟩
theorem ldIYLN (n : Byte) : Statement (.ldIYLN n) := fun _ =>
  ⟨Nat.le_of_ble_eq_true rfl, Nat.le_of_ble_eq_true rfl⟩
theorem ldPPIY (dst : RegXY) (src : RegXY) : Statement (.ldPPIY dst src) := fun _ =>
  ⟨Nat.le_of_ble_eq_true rfl, Nat.le_of_ble_eq_true rfl⟩
theorem rlcIndIYd (d : Byte) : Statement (.rlcIndIYd d) := fun _ =>
  ⟨Nat.le_of_ble_eq_true rfl, Nat.le_of_ble_eq_true rfl⟩
theorem rlcIndIYdR (d : Byte) (r : Reg8) : Statement (.rlcIndIYdR d r) := fun _ =>
  ⟨Nat.le_of_ble_eq_true rfl, Nat.le_of_ble_eq_true rfl⟩
theorem rrcIndIYd (d : Byte) : Statement (.rrcIndIYd d) := fun _ =>
  ⟨Nat.le_of_ble_eq_true rfl, Nat.le_of_ble_eq_true rfl⟩
theorem rrcIndIYdR (d : Byte) (r : Reg8) : Statement (.rrcIndIYdR d r) := fun _ =>
  ⟨Nat.le_of_ble_eq_true rfl, Nat.le_of_ble_eq_true rfl⟩
theorem rlIndIYd (d : Byte) : Statement (.rlIndIYd d) := fun _ =>
  ⟨Nat.le_of_ble_eq_true rfl, Nat.le_of_ble_eq_true rfl⟩
theorem rlIndIYdR (d : Byte) (r : Reg8) : Statement (.rlIndIYdR d r) := fun _ =>
  ⟨Nat.le_of_ble_eq_true rfl, Nat.le_of_ble_eq_true rfl⟩
theorem rrIndIYd (d : Byte) : Statement (.rrIndIYd d) := fun _ =>
  ⟨Nat.le_of_ble_eq_true rfl, Nat.le_of_ble_eq_true rfl⟩
theorem rrIndIYdR (d : Byte) (r : Reg8) : Statement (.rrIndIYdR d r) := fun _ =>
  ⟨Nat.le_of_ble_eq_true rfl, Nat.le_of_ble_eq_true rfl⟩
theorem slaIndIYd (d : Byte) : Statement (.slaIndIYd d) := fun _ =>
  ⟨Nat.le_of_ble_eq_true rfl, Nat.le_of_ble_eq_true rfl⟩
theorem slaIndIYdR (d : Byte) (r : Reg8) : Statement (.slaIndIYdR d r) := fun _ =>
  ⟨Nat.le_of_ble_eq_true rfl, Nat.le_of_ble_eq_true rfl⟩
theorem sraIndIYd (d : Byte) : Statement (.sraIndIYd d) := fun _ =>
  ⟨Nat.le_of_ble_eq_true rfl, Nat.le_of_ble_eq_true rfl⟩
theorem sraIndIYdR (d : Byte) (r : Reg8) : Statement (.sraIndIYdR d r) := fun _ =>
  ⟨Nat.le_of_ble_eq_true rfl, Nat.le_of_ble_eq_true rfl⟩
theorem srlIndIYd (d : Byte) : Statement (.srlIndIYd d) := fun _ =>
  ⟨Nat.le_of_ble_eq_true rfl, Nat.le_of_ble_eq_true rfl⟩
theorem srlIndIYdR (d : Byte) (r : Reg8) : Statement (.srlIndIYdR d r) := fun _ =>
  ⟨Nat.le_of_ble_eq_true rfl, Nat.le_of_ble_eq_true rfl⟩
theorem sllIndIYd (d : Byte) : Statement (.sllIndIYd d) := fun _ =>
  ⟨Nat.le_of_ble_eq_true rfl, Nat.le_of_ble_eq_true rfl⟩
theorem sllIndIYdR (d : Byte) (r : Reg8) : Statement (.sllIndIYdR d r) := fun _ =>
  ⟨Nat.le_of_ble_eq_true rfl, Nat.le_of_ble_eq_true rfl⟩
theorem bitBIndIYd (b : BitVec 3) (d : Byte) : Statement (.bitBIndIYd b d) := fun _ =>
  ⟨Nat.le_of_ble_eq_true rfl, Nat.le_of_ble_eq_true rfl⟩
theorem bitBIndIYdMirror (b : BitVec 3) (d : Byte) (r : Reg8) : Statement (.bitBIndIYdMirror b d r) := fun _ =>
  ⟨Nat.le_of_ble_eq_true rfl, Nat.le_of_ble_eq_true rfl⟩
theorem resBIndIYd (b : BitVec 3) (d : Byte) : Statement (.resBIndIYd b d) := fun _ =>
  ⟨Nat.le_of_ble_eq_true rfl, Nat.le_of_ble_eq_true rfl⟩
theorem resBIndIYdR (b : BitVec 3) (d : Byte) (r : Reg8) : Statement (.resBIndIYdR b d r) := fun _ =>
  ⟨Nat.le_of_ble_eq_true rfl, Nat.le_of_ble_eq_true rfl⟩
theorem setBIndIYd (b : BitVec 3) (d : Byte) : Statement (.setBIndIYd b d) := fun _ =>
  ⟨Nat.le_of_ble_eq_true rfl, Nat.le_of_ble_eq_true rfl⟩
theorem setBIndIYdR (b : BitVec 3) (d : Byte) (r : Reg8) : Statement (.setBIndIYdR b d r) := fun _ =>
  ⟨Nat.le_of_ble_eq_true rfl, Nat.le_of_ble_eq_true rfl⟩
theorem fdPass (i : Instr) : Statement (.fdPass i) := fun h =>
  ⟨Nat.succ_le_succ (Nat.zero_le _), Nat.succ_le_succ (passable_length h)⟩
theorem nop : Statement .nop := fun _ =>
  ⟨Nat.le_of_ble_eq_true rfl, Nat.le_of_ble_eq_true rfl⟩
theorem exAFAF : Statement .exAFAF := fun _ =>
  ⟨Nat.le_of_ble_eq_true rfl, Nat.le_of_ble_eq_true rfl⟩
theorem ldIndBCA : Statement .ldIndBCA := fun _ =>
  ⟨Nat.le_of_ble_eq_true rfl, Nat.le_of_ble_eq_true rfl⟩
theorem ldIndDEA : Statement .ldIndDEA := fun _ =>
  ⟨Nat.le_of_ble_eq_true rfl, Nat.le_of_ble_eq_true rfl⟩
theorem ldAIndBC : Statement .ldAIndBC := fun _ =>
  ⟨Nat.le_of_ble_eq_true rfl, Nat.le_of_ble_eq_true rfl⟩
theorem ldAIndDE : Statement .ldAIndDE := fun _ =>
  ⟨Nat.le_of_ble_eq_true rfl, Nat.le_of_ble_eq_true rfl⟩
theorem incIndHL : Statement .incIndHL := fun _ =>
  ⟨Nat.le_of_ble_eq_true rfl, Nat.le_of_ble_eq_true rfl⟩
theorem decIndHL : Statement .decIndHL := fun _ =>
  ⟨Nat.le_of_ble_eq_true rfl, Nat.le_of_ble_eq_true rfl⟩
theorem rlca : Statement .rlca := fun _ =>
  ⟨Nat.le_of_ble_eq_true rfl, Nat.le_of_ble_eq_true rfl⟩
theorem rrca : Statement .rrca := fun _ =>
  ⟨Nat.le_of_ble_eq_true rfl, Nat.le_of_ble_eq_true rfl⟩
theorem rla : Statement .rla := fun _ =>
  ⟨Nat.le_of_ble_eq_true rfl, Nat.le_of_ble_eq_true rfl⟩
theorem rra : Statement .rra := fun _ =>
  ⟨Nat.le_of_ble_eq_true rfl, Nat.le_of_ble_eq_true rfl⟩
theorem daa : Statement .daa := fun _ =>
  ⟨Nat.le_of_ble_eq_true rfl, Nat.le_of_ble_eq_true rfl⟩
theorem cpl : Statement .cpl := fun _ =>
  ⟨Nat.le_of_ble_eq_true rfl, Nat.le_of_ble_eq_true rfl⟩
theorem scf : Statement .scf := fun _ =>
  ⟨Nat.le_of_ble_eq_true rfl, Nat.le_of_ble_eq_true rfl⟩
theorem ccf : Statement .ccf := fun _ =>
  ⟨Nat.le_of_ble_eq_true rfl, Nat.le_of_ble_eq_true rfl⟩
theorem halt : Statement .halt := fun _ =>
  ⟨Nat.le_of_ble_eq_true rfl, Nat.le_of_ble_eq_true rfl⟩
theorem addAIndHL : Statement .addAIndHL := fun _ =>
  ⟨Nat.le_of_ble_eq_true rfl, Nat.le_of_ble_eq_true rfl⟩
theorem adcAIndHL : Statement .adcAIndHL := fun _ =>
  ⟨Nat.le_of_ble_eq_true rfl, Nat.le_of_ble_eq_true rfl⟩
theorem subIndHL : Statement .subIndHL := fun _ =>
  ⟨Nat.le_of_ble_eq_true rfl, Nat.le_of_ble_eq_true rfl⟩
theorem sbcAIndHL : Statement .sbcAIndHL := fun _ =>
  ⟨Nat.le_of_ble_eq_true rfl, Nat.le_of_ble_eq_true rfl⟩
theorem andIndHL : Statement .andIndHL := fun _ =>
  ⟨Nat.le_of_ble_eq_true rfl, Nat.le_of_ble_eq_true rfl⟩
theorem xorIndHL : Statement .xorIndHL := fun _ =>
  ⟨Nat.le_of_ble_eq_true rfl, Nat.le_of_ble_eq_true rfl⟩
theorem orIndHL : Statement .orIndHL := fun _ =>
  ⟨Nat.le_of_ble_eq_true rfl, Nat.le_of_ble_eq_true rfl⟩
theorem cpIndHL : Statement .cpIndHL := fun _ =>
  ⟨Nat.le_of_ble_eq_true rfl, Nat.le_of_ble_eq_true rfl⟩
theorem ret : Statement .ret := fun _ =>
  ⟨Nat.le_of_ble_eq_true rfl, Nat.le_of_ble_eq_true rfl⟩
theorem exx : Statement .exx := fun _ =>
  ⟨Nat.le_of_ble_eq_true rfl, Nat.le_of_ble_eq_true rfl⟩
theorem jpIndHL : Statement .jpIndHL := fun _ =>
  ⟨Nat.le_of_ble_eq_true rfl, Nat.le_of_ble_eq_true rfl⟩
theorem ldSPHL : Statement .ldSPHL := fun _ =>
  ⟨Nat.le_of_ble_eq_true rfl, Nat.le_of_ble_eq_true rfl⟩
theorem exIndSPHL : Statement .exIndSPHL := fun _ =>
  ⟨Nat.le_of_ble_eq_true rfl, Nat.le_of_ble_eq_true rfl⟩
theorem exDEHL : Statement .exDEHL := fun _ =>
  ⟨Nat.le_of_ble_eq_true rfl, Nat.le_of_ble_eq_true rfl⟩
theorem di : Statement .di := fun _ =>
  ⟨Nat.le_of_ble_eq_true rfl, Nat.le_of_ble_eq_true rfl⟩
theorem ei : Statement .ei := fun _ =>
  ⟨Nat.le_of_ble_eq_true rfl, Nat.le_of_ble_eq_true rfl⟩
theorem rlcIndHL : Statement .rlcIndHL := fun _ =>
  ⟨Nat.le_of_ble_eq_true rfl, Nat.le_of_ble_eq_true rfl⟩
theorem rrcIndHL : Statement .rrcIndHL := fun _ =>
  ⟨Nat.le_of_ble_eq_true rfl, Nat.le_of_ble_eq_true rfl⟩
theorem rlIndHL : Statement .rlIndHL := fun _ =>
  ⟨Nat.le_of_ble_eq_true rfl, Nat.le_of_ble_eq_true rfl⟩
theorem rrIndHL : Statement .rrIndHL := fun _ =>
  ⟨Nat.le_of_ble_eq_true rfl, Nat.le_of_ble_eq_true rfl⟩
theorem slaIndHL : Statement .slaIndHL := fun _ =>
  ⟨Nat.le_of_ble_eq_true rfl, Nat.le_of_ble_eq_true rfl⟩
theorem sraIndHL : Statement .sraIndHL := fun _ =>
  ⟨Nat.le_of_ble_eq_true rfl, Nat.le_of_ble_eq_true rfl⟩
theorem srlIndHL : Statement .srlIndHL := fun _ =>
  ⟨Nat.le_of_ble_eq_true rfl, Nat.le_of_ble_eq_true rfl⟩
theorem sllIndHL : Statement .sllIndHL := fun _ =>
  ⟨Nat.le_of_ble_eq_true rfl, Nat.le_of_ble_eq_true rfl⟩
theorem inPortC : Statement .inPortC := fun _ =>
  ⟨Nat.le_of_ble_eq_true rfl, Nat.le_of_ble_eq_true rfl⟩
theorem outPortC0 : Statement .outPortC0 := fun _ =>
  ⟨Nat.le_of_ble_eq_true rfl, Nat.le_of_ble_eq_true rfl⟩
theorem neg : Statement .neg := fun _ =>
  ⟨Nat.le_of_ble_eq_true rfl, Nat.le_of_ble_eq_true rfl⟩
theorem retn : Statement .retn := fun _ =>
  ⟨Nat.le_of_ble_eq_true rfl, Nat.le_of_ble_eq_true rfl⟩
theorem reti : Statement .reti := fun _ =>
  ⟨Nat.le_of_ble_eq_true rfl, Nat.le_of_ble_eq_true rfl⟩
theorem im0 : Statement .im0 := fun _ =>
  ⟨Nat.le_of_ble_eq_true rfl, Nat.le_of_ble_eq_true rfl⟩
theorem im1 : Statement .im1 := fun _ =>
  ⟨Nat.le_of_ble_eq_true rfl, Nat.le_of_ble_eq_true rfl⟩
theorem im2 : Statement .im2 := fun _ =>
  ⟨Nat.le_of_ble_eq_true rfl, Nat.le_of_ble_eq_true rfl⟩
theorem ldIA : Statement .ldIA := fun _ =>
  ⟨Nat.le_of_ble_eq_true rfl, Nat.le_of_ble_eq_true rfl⟩
theorem ldRA : Statement .ldRA := fun _ =>
  ⟨Nat.le_of_ble_eq_true rfl, Nat.le_of_ble_eq_true rfl⟩
theorem ldAI : Statement .ldAI := fun _ =>
  ⟨Nat.le_of_ble_eq_true rfl, Nat.le_of_ble_eq_true rfl⟩
theorem ldAR : Statement .ldAR := fun _ =>
  ⟨Nat.le_of_ble_eq_true rfl, Nat.le_of_ble_eq_true rfl⟩
theorem rrd : Statement .rrd := fun _ =>
  ⟨Nat.le_of_ble_eq_true rfl, Nat.le_of_ble_eq_true rfl⟩
theorem rld : Statement .rld := fun _ =>
  ⟨Nat.le_of_ble_eq_true rfl, Nat.le_of_ble_eq_true rfl⟩
theorem ldi : Statement .ldi := fun _ =>
  ⟨Nat.le_of_ble_eq_true rfl, Nat.le_of_ble_eq_true rfl⟩
theorem cpi : Statement .cpi := fun _ =>
  ⟨Nat.le_of_ble_eq_true rfl, Nat.le_of_ble_eq_true rfl⟩
theorem ini : Statement .ini := fun _ =>
  ⟨Nat.le_of_ble_eq_true rfl, Nat.le_of_ble_eq_true rfl⟩
theorem outi : Statement .outi := fun _ =>
  ⟨Nat.le_of_ble_eq_true rfl, Nat.le_of_ble_eq_true rfl⟩
theorem ldd : Statement .ldd := fun _ =>
  ⟨Nat.le_of_ble_eq_true rfl, Nat.le_of_ble_eq_true rfl⟩
theorem cpd : Statement .cpd := fun _ =>
  ⟨Nat.le_of_ble_eq_true rfl, Nat.le_of_ble_eq_true rfl⟩
theorem ind : Statement .ind := fun _ =>
  ⟨Nat.le_of_ble_eq_true rfl, Nat.le_of_ble_eq_true rfl⟩
theorem outd : Statement .outd := fun _ =>
  ⟨Nat.le_of_ble_eq_true rfl, Nat.le_of_ble_eq_true rfl⟩
theorem ldir : Statement .ldir := fun _ =>
  ⟨Nat.le_of_ble_eq_true rfl, Nat.le_of_ble_eq_true rfl⟩
theorem cpir : Statement .cpir := fun _ =>
  ⟨Nat.le_of_ble_eq_true rfl, Nat.le_of_ble_eq_true rfl⟩
theorem inir : Statement .inir := fun _ =>
  ⟨Nat.le_of_ble_eq_true rfl, Nat.le_of_ble_eq_true rfl⟩
theorem otir : Statement .otir := fun _ =>
  ⟨Nat.le_of_ble_eq_true rfl, Nat.le_of_ble_eq_true rfl⟩
theorem lddr : Statement .lddr := fun _ =>
  ⟨Nat.le_of_ble_eq_true rfl, Nat.le_of_ble_eq_true rfl⟩
theorem cpdr : Statement .cpdr := fun _ =>
  ⟨Nat.le_of_ble_eq_true rfl, Nat.le_of_ble_eq_true rfl⟩
theorem indr : Statement .indr := fun _ =>
  ⟨Nat.le_of_ble_eq_true rfl, Nat.le_of_ble_eq_true rfl⟩
theorem otdr : Statement .otdr := fun _ =>
  ⟨Nat.le_of_ble_eq_true rfl, Nat.le_of_ble_eq_true rfl⟩
theorem incIX : Statement .incIX := fun _ =>
  ⟨Nat.le_of_ble_eq_true rfl, Nat.le_of_ble_eq_true rfl⟩
theorem decIX : Statement .decIX := fun _ =>
  ⟨Nat.le_of_ble_eq_true rfl, Nat.le_of_ble_eq_true rfl⟩
theorem popIX : Statement .popIX := fun _ =>
  ⟨Nat.le_of_ble_eq_true rfl, Nat.le_of_ble_eq_true rfl⟩
theorem exIndSPIX : Statement .exIndSPIX := fun _ =>
  ⟨Nat.le_of_ble_eq_true rfl, Nat.le_of_ble_eq_true rfl⟩
theorem pushIX : Statement .pushIX := fun _ =>
  ⟨Nat.le_of_ble_eq_true rfl, Nat.le_of_ble_eq_true rfl⟩
theorem jpIndIX : Statement .jpIndIX := fun _ =>
  ⟨Nat.le_of_ble_eq_true rfl, Nat.le_of_ble_eq_true rfl⟩
theorem ldSPIX : Statement .ldSPIX := fun _ =>
  ⟨Nat.le_of_ble_eq_true rfl, Nat.le_of_ble_eq_true rfl⟩
theorem incIXH : Statement .incIXH := fun _ =>
  ⟨Nat.le_of_ble_eq_true rfl, Nat.le_of_ble_eq_true rfl⟩
theorem decIXH : Statement .decIXH := fun _ =>
  ⟨Nat.le_of_ble_eq_true rfl, Nat.le_of_ble_eq_true rfl⟩
theorem incIXL : Statement .incIXL := fun _ =>
  ⟨Nat.le_of_ble_eq_true rfl, Nat.le_of_ble_eq_true rfl⟩
theorem decIXL : Statement .decIXL := fun _ =>
  ⟨Nat.le_of_ble_eq_true rfl, Nat.le_of_ble_eq_true rfl⟩
theorem addAIXH : Statement .addAIXH := fun _ =>
  ⟨Nat.le_of_ble_eq_true rfl, Nat.le_of_ble_eq_true rfl⟩
theorem addAIXL : Statement .addAIXL := fun _ =>
  ⟨Nat.le_of_ble_eq_true rfl, Nat.le_of_ble_eq_true rfl⟩
theorem adcAIXH : Statement .adcAIXH := fun _ =>
  ⟨Nat.le_of_ble_eq_true rfl, Nat.le_of_ble_eq_true rfl⟩
theorem adcAIXL : Statement .adcAIXL := fun _ =>
  ⟨Nat.le_of_ble_eq_true rfl, Nat.le_of_ble_eq_true rfl⟩
theorem subIXH : Statement .subIXH := fun _ =>
  ⟨Nat.le_of_ble_eq_true rfl, Nat.le_of_ble_eq_true rfl⟩
theorem subIXL : Statement .subIXL := fun _ =>
  ⟨Nat.le_of_ble_eq_true rfl, Nat.le_of_ble_eq_true rfl⟩
theorem sbcAIXH : Statement .sbcAIXH := fun _ =>
  ⟨Nat.le_of_ble_eq_true rfl, Nat.le_of_ble_eq_true rfl⟩
theorem sbcAIXL : Statement .sbcAIXL := fun _ =>
  ⟨Nat.le_of_ble_eq_true rfl, Nat.le_of_ble_eq_true rfl⟩
theorem andIXH : Statement .andIXH := fun _ =>
  ⟨Nat.le_of_ble_eq_true rfl, Nat.le_of_ble_eq_true rfl⟩
theorem andIXL : Statement .andIXL := fun _ =>
  ⟨Nat.le_of_ble_eq_true rfl, Nat.le_of_ble_eq_true rfl⟩
theorem xorIXH : Statement .xorIXH := fun _ =>
  ⟨Nat.le_of_ble_eq_true rfl, Nat.le_of_ble_eq_true rfl⟩
theorem xorIXL : Statement .xorIXL := fun _ =>
  ⟨Nat.le_of_ble_eq_true rfl, Nat.le_of_ble_eq_true rfl⟩
theorem orIXH : Statement .orIXH := fun _ =>
  ⟨Nat.le_of_ble_eq_true rfl, Nat.le_of_ble_eq_true rfl⟩
theorem orIXL : Statement .orIXL := fun _ =>
  ⟨Nat.le_of_ble_eq_true rfl, Nat.le_of_ble_eq_true rfl⟩
theorem cpIXH : Statement .cpIXH := fun _ =>
  ⟨Nat.le_of_ble_eq_true rfl, Nat.le_of_ble_eq_true rfl⟩
theorem cpIXL : Statement .cpIXL := fun _ =>
  ⟨Nat.le_of_ble_eq_true rfl, Nat.le_of_ble_eq_true rfl⟩
theorem ddOverride : Statement .ddOverride := fun _ =>
  ⟨Nat.le_of_ble_eq_true rfl, Nat.le_of_ble_eq_true rfl⟩
theorem incIY : Statement .incIY := fun _ =>
  ⟨Nat.le_of_ble_eq_true rfl, Nat.le_of_ble_eq_true rfl⟩
theorem decIY : Statement .decIY := fun _ =>
  ⟨Nat.le_of_ble_eq_true rfl, Nat.le_of_ble_eq_true rfl⟩
theorem popIY : Statement .popIY := fun _ =>
  ⟨Nat.le_of_ble_eq_true rfl, Nat.le_of_ble_eq_true rfl⟩
theorem exIndSPIY : Statement .exIndSPIY := fun _ =>
  ⟨Nat.le_of_ble_eq_true rfl, Nat.le_of_ble_eq_true rfl⟩
theorem pushIY : Statement .pushIY := fun _ =>
  ⟨Nat.le_of_ble_eq_true rfl, Nat.le_of_ble_eq_true rfl⟩
theorem jpIndIY : Statement .jpIndIY := fun _ =>
  ⟨Nat.le_of_ble_eq_true rfl, Nat.le_of_ble_eq_true rfl⟩
theorem ldSPIY : Statement .ldSPIY := fun _ =>
  ⟨Nat.le_of_ble_eq_true rfl, Nat.le_of_ble_eq_true rfl⟩
theorem incIYH : Statement .incIYH := fun _ =>
  ⟨Nat.le_of_ble_eq_true rfl, Nat.le_of_ble_eq_true rfl⟩
theorem decIYH : Statement .decIYH := fun _ =>
  ⟨Nat.le_of_ble_eq_true rfl, Nat.le_of_ble_eq_true rfl⟩
theorem incIYL : Statement .incIYL := fun _ =>
  ⟨Nat.le_of_ble_eq_true rfl, Nat.le_of_ble_eq_true rfl⟩
theorem decIYL : Statement .decIYL := fun _ =>
  ⟨Nat.le_of_ble_eq_true rfl, Nat.le_of_ble_eq_true rfl⟩
theorem addAIYH : Statement .addAIYH := fun _ =>
  ⟨Nat.le_of_ble_eq_true rfl, Nat.le_of_ble_eq_true rfl⟩
theorem addAIYL : Statement .addAIYL := fun _ =>
  ⟨Nat.le_of_ble_eq_true rfl, Nat.le_of_ble_eq_true rfl⟩
theorem adcAIYH : Statement .adcAIYH := fun _ =>
  ⟨Nat.le_of_ble_eq_true rfl, Nat.le_of_ble_eq_true rfl⟩
theorem adcAIYL : Statement .adcAIYL := fun _ =>
  ⟨Nat.le_of_ble_eq_true rfl, Nat.le_of_ble_eq_true rfl⟩
theorem subIYH : Statement .subIYH := fun _ =>
  ⟨Nat.le_of_ble_eq_true rfl, Nat.le_of_ble_eq_true rfl⟩
theorem subIYL : Statement .subIYL := fun _ =>
  ⟨Nat.le_of_ble_eq_true rfl, Nat.le_of_ble_eq_true rfl⟩
theorem sbcAIYH : Statement .sbcAIYH := fun _ =>
  ⟨Nat.le_of_ble_eq_true rfl, Nat.le_of_ble_eq_true rfl⟩
theorem sbcAIYL : Statement .sbcAIYL := fun _ =>
  ⟨Nat.le_of_ble_eq_true rfl, Nat.le_of_ble_eq_true rfl⟩
theorem andIYH : Statement .andIYH := fun _ =>
  ⟨Nat.le_of_ble_eq_true rfl, Nat.le_of_ble_eq_true rfl⟩
theorem andIYL : Statement .andIYL := fun _ =>
  ⟨Nat.le_of_ble_eq_true rfl, Nat.le_of_ble_eq_true rfl⟩
theorem xorIYH : Statement .xorIYH := fun _ =>
  ⟨Nat.le_of_ble_eq_true rfl, Nat.le_of_ble_eq_true rfl⟩
theorem xorIYL : Statement .xorIYL := fun _ =>
  ⟨Nat.le_of_ble_eq_true rfl, Nat.le_of_ble_eq_true rfl⟩
theorem orIYH : Statement .orIYH := fun _ =>
  ⟨Nat.le_of_ble_eq_true rfl, Nat.le_of_ble_eq_true rfl⟩
theorem orIYL : Statement .orIYL := fun _ =>
  ⟨Nat.le_of_ble_eq_true rfl, Nat.le_of_ble_eq_true rfl⟩
theorem cpIYH : Statement .cpIYH := fun _ =>
  ⟨Nat.le_of_ble_eq_true rfl, Nat.le_of_ble_eq_true rfl⟩
theorem cpIYL : Statement .cpIYL := fun _ =>
  ⟨Nat.le_of_ble_eq_true rfl, Nat.le_of_ble_eq_true rfl⟩
theorem fdOverride : Statement .fdOverride := fun _ =>
  ⟨Nat.le_of_ble_eq_true rfl, Nat.le_of_ble_eq_true rfl⟩

end Sys2Proof.Laws.EncodeLength
end

