-- ==== Sys2Proof/Laws/Step.lean ====
section
/-! SUPPORT. One step taken apart: an exec part, the host requests, the hook, the frame wrap. -/

namespace Sys2Proof.Machine

theorem execPart_kept {s t : State} (h : execPart s = .next t) : Kept s t := by
  unfold execPart at h
  split at h
  · exact State.enterInt_kept h
  · split at h
    · obtain rfl := Host.Outcome.next.inj h; exact s.haltedCycle_kept
    · exact s.dosUpdate_kept.trans (exec_kept h)

/-- Every step that answers a next state is made of these parts. -/
theorem step_cases {s t : State} (h : step s = .next t) :
    ∃ u v, Kept s u ∧ Asked { u with requests := [] } v ∧ t = v.hook.wrapFrames := by
  obtain ⟨u, h1, h2⟩ := andThen_next h
  obtain ⟨v, h3, h4⟩ := boundary_cases h2
  exact ⟨u, v, execPart_kept h1, State.takeRequests_asked h3, h4⟩

/-- What a step or a launch that answers a next state is made of; before the boundary a launch does nothing. -/
theorem turn_cases {s t : State} (h : step s = .next t ∨ launch s = .next t) :
    ∃ u v, Kept s u ∧ Asked { u with requests := [] } v ∧ t = v.hook.wrapFrames := by
  rcases h with h | h
  · exact step_cases h
  · obtain ⟨v, h1, h2⟩ := boundary_cases h
    exact ⟨s, v, .refl s, State.takeRequests_asked h1, h2⟩

end Sys2Proof.Machine
end

