-- ==== Sys2Proof/Tests/Slice0.lean ====
section
/-! SUPPORT. Tests: ill-formed terms that the check refuses, words written out from the encoding tables of the spec, single steps from the
test vectors of 95_test_vectors and 96_test_vectors_machine, and for each statement with hypotheses a state and operands that meet
them. -/

namespace Sys2Proof.Tests

open Sys2Proof.Machine Sys2Proof.Claim

/-! ### Well-formedness -/

theorem test_wf_negMirror : (Instr.negMirror 0).wf = false ∧ (Instr.negMirror 1).wf = true := by decide
theorem test_wf_retnMirror : (Instr.retnMirror 0).wf = false ∧ (Instr.retnMirror 1).wf = false ∧ (Instr.retnMirror 2).wf = true := by
  decide
theorem test_wf_imMirror : (Instr.imMirror 0).wf = false ∧ (Instr.imMirror 2).wf = false ∧ (Instr.imMirror 3).wf = false ∧
    (Instr.imMirror 4).wf = true := by decide
theorem test_wf_nopEd : (Instr.nopEd 0x44).wf = false ∧ (Instr.nopEd 0xA0).wf = false ∧ (Instr.nopEd 0x3F).wf = true := by decide
theorem test_wf_ldPP : (Instr.ldPPIX .b .c).wf = false ∧ (Instr.ldPPIY .a .e).wf = false ∧ (Instr.ldPPIX .xh .c).wf = true := by
  decide
theorem test_wf_pass : (Instr.ddPass .incIndHL).wf = false ∧ (Instr.fdPass (.addHLSs .de)).wf = false ∧
    (Instr.ddPass (.ddPass .nop)).wf = false ∧ (Instr.fdPass .exDEHL).wf = true := by decide

/-- A term that is no instruction is refused by its meaning. -/
theorem test_ill_formed_prefix : exec (.ddPass .incIndHL) State.reset = .refused .illFormedPrefix := rfl

/-! ### Words written out from the encoding tables (30_encoding R176 to R180 and the Encoding line of each rule) -/

/-- 40_load8: `01 rrr sss`, `DD 01 rrr 110 d`, `DD 36 d n`, `ED 5F`. -/
theorem test_decode_load8 :
    decode [0b01100011] = .ok (.ldRR .h .e, []) ∧ decode [0xDD, 0b01111110, 0x80] = .ok (.ldRIndIXd .a 0x80, []) ∧
    decode [0xDD, 0x36, 0xFF, 0x3C] = .ok (.ldIndIXdN 0xFF 0x3C, []) ∧ decode [0xED, 0x5F] = .ok (.ldAR, []) := by decide

/-- 41_load16_stack: `00 dd 0001`, `ED 01 dd 1011`, `FD 22`, `11 qq 0101`. -/
theorem test_decode_load16 :
    decode [0b00110001, 0xFF, 0x7F] = .ok (.ldDdNn .sp 0x7FFF, []) ∧
    decode [0xED, 0b01011011, 0x00, 0x90] = .ok (.ldDdIndNn .de 0x9000, []) ∧
    decode [0xFD, 0x22, 0xFF, 0x3F] = .ok (.ldIndNnIY 0x3FFF, []) ∧ decode [0b11110101] = .ok (.pushQq .af, []) := by decide

/-- 42_exchange_block: `08`, `D9`, `DD E3`, `ED A1`, `ED B8`. -/
theorem test_decode_exchange :
    decode [0x08] = .ok (.exAFAF, []) ∧ decode [0xD9] = .ok (.exx, []) ∧ decode [0xDD, 0xE3] = .ok (.exIndSPIX, []) ∧
    decode [0xED, 0xA1] = .ok (.cpi, []) ∧ decode [0xED, 0xB8] = .ok (.lddr, []) := by decide

/-- 43_alu8: `10 000 rrr`, `11 011 110 n`, `10 111 110`, `FD 10 101 110 d`, `00 rrr 101`. -/
theorem test_decode_alu8 :
    decode [0b10000111] = .ok (.addAR .a, []) ∧ decode [0b11011110, 0x01] = .ok (.sbcAN 0x01, []) ∧
    decode [0b10111110] = .ok (.cpIndHL, []) ∧ decode [0xFD, 0b10101110, 0x7F] = .ok (.xorIndIYd 0x7F, []) ∧
    decode [0b00101101] = .ok (.decR .l, []) := by decide

/-- 44_general_cpu_control: `27`, `ED 44`, `76`, `FB`, `ED 5E`. -/
theorem test_decode_control :
    decode [0x27] = .ok (.daa, []) ∧ decode [0xED, 0x44] = .ok (.neg, []) ∧ decode [0x76] = .ok (.halt, []) ∧
    decode [0xFB] = .ok (.ei, []) ∧ decode [0xED, 0x5E] = .ok (.im2, []) := by decide

/-- 45_alu16: `00 ss 1001`, `ED 01 ss 1010`, `DD 00 pp 1001`, `FD 2B`. -/
theorem test_decode_alu16 :
    decode [0b00101001] = .ok (.addHLSs .hl, []) ∧ decode [0xED, 0b01111010] = .ok (.adcHLSs .sp, []) ∧
    decode [0xDD, 0b00101001] = .ok (.addIXPp .xy, []) ∧ decode [0xFD, 0x2B] = .ok (.decIY, []) := by decide

/-- 46_rotate_shift: `07`, `CB 00 010 rrr`, `DD CB d 00 111 110`, `ED 67`. -/
theorem test_decode_rotate :
    decode [0x07] = .ok (.rlca, []) ∧ decode [0xCB, 0b00010010] = .ok (.rlR .d, []) ∧
    decode [0xDD, 0xCB, 0x05, 0b00111110] = .ok (.srlIndIXd 0x05, []) ∧ decode [0xED, 0x67] = .ok (.rrd, []) := by decide

/-- 47_bit: `CB 01 bbb rrr`, `CB 11 bbb 110`, `FD CB d 10 bbb 110`. -/
theorem test_decode_bit :
    decode [0xCB, 0b01111001] = .ok (.bitBR 7 .c, []) ∧ decode [0xCB, 0b11000110] = .ok (.setBIndHL 0, []) ∧
    decode [0xFD, 0xCB, 0xFE, 0b10011110] = .ok (.resBIndIYd 3 0xFE, []) := by decide

/-- 48_control_transfer: `11 ccc 010`, `10`, `11 ccc 100`, `11 ccc 000`, `11 ttt 111`, `ED 4D`. -/
theorem test_decode_jump :
    decode [0b11111010, 0x34, 0x12] = .ok (.jpCcNn .m 0x1234, []) ∧ decode [0x10, 0xFE] = .ok (.djnzE 0xFE, []) ∧
    decode [0b11101100, 0x00, 0x80] = .ok (.callCcNn .pe 0x8000, []) ∧ decode [0b11010000] = .ok (.retCc .nc, []) ∧
    decode [0b11111111] = .ok (.rstP 7, []) ∧ decode [0xED, 0x4D] = .ok (.reti, []) := by decide

/-- 49_io: `DB n`, `ED 01 rrr 000`, `ED 01 rrr 001`, `ED B3`. -/
theorem test_decode_io :
    decode [0xDB, 0xFE] = .ok (.inAPortN 0xFE, []) ∧ decode [0xED, 0b01111000] = .ok (.inRPortC .a, []) ∧
    decode [0xED, 0b01000001] = .ok (.outPortCR .b, []) ∧ decode [0xED, 0xB3] = .ok (.otir, []) := by decide

/-- 50_undocumented: halves, SLL, copies, mirrors, the ED no-operations, the prefixes. -/
theorem test_decode_undocumented :
    decode [0xFD, 0b01101100] = .ok (.ldPPIY .xl .xh, []) ∧ decode [0xCB, 0b00110000] = .ok (.sllR .b, []) ∧
    decode [0xDD, 0xCB, 0x01, 0b00000000] = .ok (.rlcIndIXdR 0x01 .b, []) ∧
    decode [0xDD, 0xCB, 0x01, 0b11111111] = .ok (.setBIndIXdR 7 0x01 .a, []) := by decide

/-- 50_undocumented: the ED mirrors and no-operations, and the prefixes passed over and overridden. -/
theorem test_decode_undocumented_ed :
    decode [0xED, 0x4C] = .ok (.negMirror 1, []) ∧ decode [0xED, 0x7D] = .ok (.retnMirror 7, []) ∧
    decode [0xED, 0x4E] = .ok (.imMirror 1, []) ∧ decode [0xED, 0x7F] = .ok (.nopEd77 1, []) ∧
    decode [0xED, 0xFF] = .ok (.nopEd 0xFF, []) ∧ decode [0xDD, 0x47] = .ok (.ddPass (.ldRR .b .a), []) ∧
    decode [0xFD, 0xDD] = .ok (.fdOverride, [0xDD]) := by decide

/-- Bytes that end too soon are refused by name. -/
theorem test_decode_truncated : decode [] = .error .truncated ∧ decode [0xC3, 0x00] = .error .truncated ∧
    decode [0xDD] = .error .truncated := by decide

/-- The words of spec/opcode_table.json: the first byte is the most significant (30_encoding R183). -/
theorem test_table_words :
    decodeTableWord 8 0x41 = some (.ldRR .b .c) ∧ decodeTableWord 16 0xED47 = some .ldIA ∧
    decodeTableWord 24 0xC30080 = some (.jpNn 0x8000) ∧ decodeTableWord 32 0xDDCB0506 = some (.rlcIndIXd 0x05) ∧
    decodeTableWord 8 0xDD = some (.ddPass .nop) := by decide

/-! ### Single steps -/

/-- The start state of the test vectors: PC 0x8000, SP 0xFF00, the rest as after reset. -/
def start : State := { State.reset with pc := 0x8000, sp := 0xFF00 }

/-- `s` with bytes stored from `addr` on. -/
def bytesAt (addr : Word) (bs : List Byte) (s : State) : State :=
  match bs with
  | [] => s
  | b :: rest => bytesAt (addr + 1) rest (s.memWrite addr b)

/-- The state after one step, or the state itself where the step stops. -/
def after (s : State) : State :=
  match step s with
  | .next t => t
  | _ => s

/-- One step of the code `bs` at 0x8000. -/
def run (bs : List Byte) (s : State) : State := after (bytesAt 0x8000 bs s)

/-! The vectors of 95_test_vectors, under their names there. -/

theorem test_V40_05 :
    let s := run [0xDD, 0x7E, 0x80] (bytesAt 0x9000 [0x5A] { start with ix := 0x9080 })
    s.a = 0x5A ∧ s.t = 19 := by decide
theorem test_V40_23 :
    let s := run [0xED, 0x5F] { start with rLo := 0x7e, rHi := 1 }
    s.a = 0x80 ∧ s.f = 0x80 ∧ s.rLo = 0x0 ∧ s.t = 9 := by decide
theorem test_V40_26 :
    let s := run [0xED, 0x4F] { start with a := 0xFF }
    s.rLo = 0x7F ∧ s.rHi = 1 ∧ s.t = 9 := by decide
theorem test_V41_05 :
    let s := run [0x2A, 0xFF, 0xFF] (bytesAt 0xFFFF [0x34] { start with rom := [(0, 0x12)] })
    s.h = 0x12 ∧ s.l = 0x34 ∧ s.t = 16 := by decide
theorem test_V41_10 :
    let s := run [0xFD, 0x2A, 0x00, 0x90] (bytesAt 0x9001 [0xAB] (bytesAt 0x9000 [0xCD] start))
    s.iy = 0xABCD ∧ s.t = 20 := by decide
theorem test_V41_15 :
    let s := run [0xFD, 0x22, 0xFF, 0x3F] { start with iy := 0x1234 }
    s.t = 20 ∧ s.memRead 0x4000 = 0x12 := by decide
theorem test_V42_07 :
    let s := run [0xED, 0xA0] (bytesAt 0x9000 [0x0A]
      { start with a := 0x00, f := 0xFF, b := 0x0, c := 0x1, d := 0x91, e := 0x0, h := 0x90, l := 0x0 })
    s.f = 0xE9 ∧ s.c = 0x0 ∧ s.e = 0x1 ∧ s.l = 0x1 ∧ s.t = 16 ∧ s.memRead 0x9100 = 0x0A := by decide
theorem test_V42_10 :
    let s := run [0xED, 0xB0] (bytesAt 0x9000 [0x55] { start with b := 0x0, c := 0x0, d := 0x91, e := 0x0, h := 0x90, l := 0x0 })
    s.f = 0x04 ∧ s.b = 0xff ∧ s.c = 0xff ∧ s.e = 0x1 ∧ s.l = 0x1 ∧ s.t = 21 := by decide
theorem test_V42_14 :
    let s := run [0xED, 0xA1] (bytesAt 0x9000 [0x01] { start with a := 0x10, b := 0x0, c := 0x1, h := 0x90, l := 0x0 })
    s.f = 0x3A ∧ s.c = 0x0 ∧ s.l = 0x1 ∧ s.t = 16 := by decide
theorem test_V42_18 :
    let s := run [0xED, 0xB9] (bytesAt 0x9001 [0x01] { start with a := 0x00, b := 0x0, c := 0x2, h := 0x90, l := 0x1 })
    s.f = 0xBE ∧ s.c = 0x1 ∧ s.l = 0x0 ∧ s.t = 21 := by decide
theorem test_V43_01 :
    let s := run [0x80] { start with a := 0x7F, b := 0x1, c := 0x0 }
    s.a = 0x80 ∧ s.f = 0x94 ∧ s.t = 4 := by decide
theorem test_V43_16 :
    let s := run [0x94] { start with a := 0x80, h := 0x1, l := 0x0 }
    s.a = 0x7F ∧ s.f = 0x3E ∧ s.t = 4 := by decide
theorem test_V43_23 :
    let s := run [0x9D] { start with a := 0x80, f := 0x01, h := 0x0, l := 0x7f }
    s.a = 0x00 ∧ s.f = 0x56 ∧ s.t = 4 := by decide
theorem test_V43_45 :
    let s := run [0xB8] { start with a := 0x40, b := 0x28, c := 0x0 }
    s.f = 0x3A ∧ s.t = 4 := by decide
theorem test_V43_52 :
    let s := run [0x3C] { start with a := 0x7F, f := 0x01 }
    s.a = 0x80 ∧ s.f = 0x95 ∧ s.t = 4 := by decide
theorem test_V43_58 :
    let s := run [0x05] { start with f := 0x01, b := 0x80, c := 0x0 }
    s.f = 0x3F ∧ s.b = 0x7f ∧ s.t = 4 := by decide
theorem test_V44_01 :
    let s := run [0x27] { start with a := 0x3C, f := 0x00 }
    s.a = 0x42 ∧ s.f = 0x14 ∧ s.t = 4 := by decide
theorem test_V44_02 :
    let s := run [0x27] { start with a := 0x9A, f := 0x00 }
    s.a = 0x00 ∧ s.f = 0x55 ∧ s.t = 4 := by decide
theorem test_V44_05 :
    let s := run [0x27] { start with a := 0xFF, f := 0x13 }
    s.a = 0x99 ∧ s.f = 0x8F ∧ s.t = 4 := by decide
theorem test_V44_08 :
    let s := run [0x2F] { start with a := 0xD7, f := 0xC5 }
    s.a = 0x28 ∧ s.f = 0xFF ∧ s.pc = 0x8001 ∧ s.t = 4 := by decide
theorem test_V44_09 :
    let s := run [0xED, 0x44] { start with a := 0x80 }
    s.f = 0x87 ∧ s.t = 8 := by decide
theorem test_V44_12 :
    let s := run [0x3F] { start with a := 0x28, f := 0xC5 }
    s.f = 0xFC ∧ s.t = 4 := by decide
theorem test_V44_14 :
    let s := run [0x37] { start with a := 0xFF, f := 0xD6 }
    s.f = 0xED ∧ s.t = 4 := by decide
theorem test_V45_01 :
    let s := run [0x09] { start with f := 0xC4, b := 0x0, c := 0x1, h := 0xf, l := 0xff }
    s.f = 0xD4 ∧ s.h = 0x10 ∧ s.l = 0x0 ∧ s.t = 11 := by decide
theorem test_V45_05 :
    let s := run [0xED, 0x4A] { start with f := 0x01, b := 0x0, c := 0x0, h := 0x7f, l := 0xff }
    s.f = 0x94 ∧ s.h = 0x80 ∧ s.l = 0x0 ∧ s.t = 15 := by decide
theorem test_V45_10 :
    let s := run [0xED, 0x42] { start with f := 0x00, b := 0x0, c := 0x1, h := 0x80, l := 0x0 }
    s.f = 0x3E ∧ s.h = 0x7f ∧ s.l = 0xff ∧ s.t = 15 := by decide
theorem test_V45_12 :
    let s := run [0xED, 0x72] { start with f := 0x01, h := 0x10, l := 0x0, sp := 0x0001 }
    s.f = 0x1A ∧ s.h = 0xf ∧ s.l = 0xfe ∧ s.t = 15 := by decide
theorem test_V46_01 :
    let s := run [0x07] { start with a := 0x81, f := 0xD4 }
    s.a = 0x03 ∧ s.f = 0xC5 ∧ s.t = 4 := by decide
theorem test_V46_04 :
    let s := run [0x17] { start with a := 0x00, f := 0xC5 }
    s.a = 0x01 ∧ s.f = 0xC4 ∧ s.t = 4 := by decide
theorem test_V46_21 :
    let s := run [0xCB, 0x1B] { start with f := 0x00, d := 0x0, e := 0x1 }
    s.f = 0x45 ∧ s.e = 0x0 ∧ s.t = 8 := by decide
theorem test_V46_37 :
    let s := run [0xED, 0x6F] (bytesAt 0x9000 [0x31] { start with a := 0x7A, f := 0x01, h := 0x90, l := 0x0 })
    s.a = 0x73 ∧ s.f = 0x21 ∧ s.t = 18 ∧ s.memRead 0x9000 = 0x1A := by decide
theorem test_V46_39 :
    let s := run [0xED, 0x67] (bytesAt 0x9000 [0x20] { start with a := 0x84, f := 0x00, h := 0x90, l := 0x0 })
    s.a = 0x80 ∧ s.f = 0x80 ∧ s.t = 18 ∧ s.memRead 0x9000 = 0x42 := by decide
theorem test_V47_01 :
    let s := run [0xCB, 0x7F] { start with a := 0x80, f := 0x01 }
    s.f = 0x91 ∧ s.t = 8 := by decide
theorem test_V47_04 :
    let s := run [0xCB, 0x5A] { start with d := 0xf7, e := 0x0 }
    s.f = 0x74 ∧ s.t = 8 := by decide
theorem test_V47_07 :
    let s := run [0xDD, 0xCB, 0x05, 0x46] (bytesAt 0xA900 [0x01] { start with ix := 0xA8FB })
    s.f = 0x38 ∧ s.t = 20 := by decide
theorem test_V47_13 :
    let s := run [0xFD, 0xCB, 0x02, 0xFE] (bytesAt 0x9002 [0x01] { start with iy := 0x9000 })
    s.t = 23 ∧ s.memRead 0x9002 = 0x81 := by decide
theorem test_V47_16 :
    let s := run [0xDD, 0xCB, 0xFF, 0xA6] (bytesAt 0x9000 [0x10] { start with ix := 0x9001 })
    s.t = 23 ∧ s.memRead 0x9000 = 0x00 := by decide
theorem test_V48_09 :
    let s := run [0xF2, 0x00, 0x90] { start with f := 0x80 }
    s.pc = 0x8003 ∧ s.t = 10 := by decide
theorem test_V48_13 :
    let s := run [0x18, 0x80] start
    s.pc = 0x7F82 ∧ s.t = 12 := by decide
theorem test_V48_19 :
    let s := run [0x20, 0xFD] { start with f := 0x00 }
    s.pc = 0x7FFF ∧ s.t = 12 := by decide
theorem test_V48_25 :
    let s := run [0x10, 0x10] { start with b := 0x0, c := 0x0 }
    s.b = 0xff ∧ s.pc = 0x8012 ∧ s.t = 13 := by decide
theorem test_V48_26 :
    let s := run [0xCD, 0x00, 0x90] start
    s.sp = 0xFEFE ∧ s.pc = 0x9000 ∧ s.t = 17 ∧ s.memRead 0xFEFF = 0x80 ∧ s.memRead 0xFEFE = 0x03 := by decide
theorem test_V48_30 :
    let s := run [0xEC, 0x00, 0x90] { start with f := 0x00 }
    s.pc = 0x8003 ∧ s.t = 10 := by decide
theorem test_V48_32 :
    let s := run [0xC0] (bytesAt 0x9001 [0x12] (bytesAt 0x9000 [0x34] { start with f := 0x00, sp := 0x9000 }))
    s.sp = 0x9002 ∧ s.pc = 0x1234 ∧ s.t = 11 := by decide
theorem test_V48_36 :
    let s := run [0xED, 0x45] (bytesAt 0x9001 [0x12] (bytesAt 0x9000 [0x34]
      { start with sp := 0x9000, iff1 := true, iff2 := false, t := 100 }))
    s.sp = 0x9002 ∧ s.iff1 = false ∧ s.pc = 0x1234 ∧ s.t = 114 := by decide
theorem test_V48_38 :
    let s := run [0xEF] start
    s.sp = 0xFEFE ∧ s.pc = 0x0028 ∧ s.t = 11 ∧ s.memRead 0xFEFF = 0x80 ∧ s.memRead 0xFEFE = 0x01 := by decide
theorem test_V49_01 :
    let s := run [0xDB, 0xFE] { start with a := 0x7F, f := 0xFF }
    s.a = 0xBF ∧ s.t = 11 := by decide
theorem test_V49_06 :
    let s := run [0xED, 0xA2] { start with b := 0x1, c := 0xfe, h := 0x90, l := 0x0 }
    s.b = 0x0 ∧ s.l = 0x1 ∧ s.t = 16 ∧ s.memRead 0x9000 = 0xBF := by decide
theorem test_V49_10 :
    let s := run [0xED, 0xBA] { start with b := 0x2, c := 0x34, h := 0x90, l := 0x1 }
    s.b = 0x1 ∧ s.l = 0x0 ∧ s.t = 21 ∧ s.memRead 0x9001 = 0xFF := by decide
theorem test_V49_13 :
    let s := run [0xED, 0x61] { start with b := 0x1f, c := 0xfd, h := 0xab, l := 0x0 }
    s.t = 12 ∧ s.p1FFD = 0xAB := by decide
theorem test_V49_14 :
    let s := run [0xED, 0xA3] (bytesAt 0x9000 [0x07] { start with b := 0x80, c := 0xfd, h := 0x90, l := 0x0 })
    s.b = 0x7f ∧ s.l = 0x1 ∧ s.t = 16 ∧ s.p7FFD = 0x07 := by decide
theorem test_V50_03 :
    let s := run [0xDD, 0xEB] { start with d := 0x11, e := 0x11, h := 0x22, l := 0x22, ix := 0x3333 }
    s.d = 0x22 ∧ s.e = 0x22 ∧ s.h = 0x11 ∧ s.l = 0x11 ∧ s.rLo = 0x2 ∧ s.rHi = 0 := by decide
theorem test_V50_04 :
    let s := run [0xDD, 0xFD, 0x21, 0x34, 0x12] start
    s.pc = 0x8001 ∧ s.t = 4 ∧ s.eiPos = 4 := by decide
theorem test_V50_09 :
    let s := run [0xDD, 0x65] { start with h := 0x55, l := 0x66, ix := 0x12AB }
    s.ix = 0xABAB ∧ s.t = 8 := by decide
theorem test_V50_11 :
    let s := run [0xDD, 0x66, 0x01] (bytesAt 0x9001 [0x77] { start with h := 0x11, l := 0x22, ix := 0x9000 })
    s.h = 0x77 ∧ s.t = 19 := by decide
theorem test_V50_16 :
    let s := run [0xDD, 0x2D] { start with ix := 0x1200 }
    s.f = 0xBA ∧ s.ix = 0x12FF ∧ s.t = 8 := by decide
theorem test_V50_20 :
    let s := run [0xFD, 0xBD] { start with a := 0x10, iy := 0x0028 }
    s.f = 0xBB ∧ s.t = 8 := by decide
theorem test_V50_26 :
    let s := run [0xDD, 0xCB, 0x01, 0x00] (bytesAt 0x9001 [0x81] { start with b := 0x12, c := 0x34, ix := 0x9000 })
    s.f = 0x05 ∧ s.b = 0x3 ∧ s.t = 23 ∧ s.memRead 0x9001 = 0x03 := by decide
theorem test_V50_28 :
    let s := run [0xDD, 0xCB, 0x00, 0x14] (bytesAt 0x9000 [0x40] { start with f := 0x01, h := 0x0, l := 0x0, ix := 0x9000 })
    s.f = 0x84 ∧ s.h = 0x81 ∧ s.t = 23 ∧ s.memRead 0x9000 = 0x81 := by decide
theorem test_V50_29 :
    let s := run [0xDD, 0xCB, 0x00, 0xC1] (bytesAt 0x9000 [0x80] { start with b := 0x0, c := 0xff, ix := 0x9000 })
    s.c = 0x81 ∧ s.t = 23 ∧ s.memRead 0x9000 = 0x81 := by decide
theorem test_V50_31 :
    let s := run [0xDD, 0xCB, 0x00, 0x41] (bytesAt 0x9000 [0x01] { start with b := 0x12, c := 0x34, ix := 0x9000 })
    s.f = 0x10 ∧ s.t = 20 := by decide
theorem test_V50_37 :
    let s := run [0xED, 0x7D] (bytesAt 0x9001 [0x12] (bytesAt 0x9000 [0x34]
      { start with sp := 0x9000, iff1 := true, iff2 := false, t := 100 }))
    s.sp = 0x9002 ∧ s.iff1 = false ∧ s.pc = 0x1234 ∧ s.t = 114 := by decide
theorem test_V50_40 :
    let s := run [0xED, 0x76] start
    s.im = .im1 ∧ s.t = 8 := by decide

/-! ### Machine-level steps (96_test_vectors_machine) -/

/-- V60-01: an interrupt in mode 1. -/
theorem test_V60_01 :
    let s := after { start with im := .im1, iff1 := true, iff2 := true, rLo := 0x10 }
    s.pc = 0x0038 ∧ s.sp = 0xFEFE ∧ s.memRead 0xFEFF = 0x80 ∧ s.iff1 = false ∧ s.rLo = 0x11 ∧ s.t = 13 := by decide

/-- V60-03: an interrupt in mode 2 through the vector at 0x80FF. -/
theorem test_V60_03 :
    let s := after (bytesAt 0x80FF [0x34, 0x12] { start with im := .im2, i := 0x80, iff1 := true, iff2 := true })
    s.pc = 0x1234 ∧ s.t = 19 ∧ s.memRead 0xFEFE = 0x00 := by decide

/-- V60-06: the interrupt window is over at T 32. -/
theorem test_V60_06 :
    let s := after { start with im := .im1, iff1 := true, iff2 := true, t := 32 }
    s.pc = 0x8001 ∧ s.t = 36 ∧ s.iff1 = true := by decide

/-- V60-10: a halted CPU with interrupts off. -/
theorem test_V60_10 :
    let s := after { start with im := .im1, halted := true, pc := 0x8001, t := 8 }
    s.pc = 0x8001 ∧ s.t = 12 ∧ s.rLo = 1 ∧ s.halted = true := by decide

/-- V20-03: the paging latch is locked by bit 5. -/
theorem test_V20_03 : ((start.portWrite 0x7FFD 0x21).portWrite 0x7FFD 7).p7FFD = 0x21 := by decide

/-- V53-08: the delay loop `DEC A / JR NZ` is skipped at the boundary. -/
theorem test_V53_08 :
    let tp : Tape := { start.tape with pulses := [100], image := [0], playPtr := some 0 }
    let u := bytesAt 0x8000 [0x3D, 0x20, 0xFD] { start with a := 5, t := 100, tape := tp }
    let s := ({ u with cfg := { u.cfg with soundEnabled := false } }).hook
    s.a = 1 ∧ s.t = 164 ∧ s.pc = 0x8000 := by decide

/-- V51-06: a pulse of 100 T, one of 0 T, one of 200 T and the marker: the level at T 0, 99 and 100. -/
theorem test_V51_06 :
    let tp : Tape := { start.tape with pulses := [100, 0, 200, sentinel], image := [0, 1, 2, 3], playPtr := some 0 }
    let s : State := { start with tape := tp }
    s.tapeBit.1 = 0xFF ∧ ({ s with t := 99 } : State).tapeBit.1 = 0xFF ∧ ({ s with t := 100 } : State).tapeBit.1 = 0xFF ∧
      ({ s with t := 300 } : State).tapeBit.1 = 0x00 ∧ ({ s with t := 300 } : State).tapeBit.2.tape.playPtr = none := by decide

set_option maxRecDepth 4000 in
/-- V52-24: the checksum of an ID field. -/
theorem test_V52_24 : crcAm [0xFE, 0x00, 0x00, 0x01, 0x01] = 0xFA0C := by decide

/-! ### The instruction placed where the machine fetches -/

/-- The row `INC r` of the table as the first instruction after reset. -/
theorem test_place_incA :
    let s := after (State.reset.withFetchWord 8 0x3C)
    s.a = 1 ∧ s.pc = 1 ∧ s.t = 4 := by decide

/-- A row of four bytes, after reset. -/
theorem test_place_ldIX :
    let s := after (State.reset.withFetchWord 32 0xDD213412)
    s.ix = 0x1234 ∧ s.pc = 4 ∧ s.t = 14 := by decide

/-- At the top of memory the bytes go on at address 0. -/
theorem test_place_wraps :
    let s := after ({ State.reset with pc := 0xFFFF }.withFetchWord 16 0x3E7B)
    s.a = 0x7B ∧ s.pc = 1 := by decide

/-! ### Hypotheses that are met: for each statement with hypotheses, a state and operands -/

theorem witness_HalfIndexLoads :
    (RegXY.half .xh || RegXY.half .a) = true ∧ (RegXY.half .b || RegXY.half .xl) = true ∧
      (RegXY.half .xl || RegXY.half .xl) = true := by decide

theorem witness_AccumulatorAdjust : (1 : BitVec 3) ≠ 0 ∧ (7 : BitVec 3) ≠ 0 := by decide

/-- The ends of each range of ED no-operations, and every mirror of IM. -/
theorem witness_CpuControl :
    let cond (op : Byte) := decide (op.toNat < 0x40 ∨ 0x80 ≤ op.toNat ∧ op.toNat < 0xA0 ∨
      0xA0 ≤ op.toNat ∧ op.toNat < 0xC0 ∧ op.getLsbD 2 = true ∨ 0xC0 ≤ op.toNat)
    [0x00, 0x3F, 0x80, 0x9F, 0xA4, 0xBF, 0xC0, 0xFF].all cond = true ∧ [0x40, 0x7F, 0xA0, 0xBB].any cond = false ∧
      [1, 4, 5, 6, 7].all (fun k : BitVec 3 => decide (k = 1 ∨ k = 4 ∨ k = 5 ∨ k = 6 ∨ k = 7)) = true := by decide

/-- Each condition holds for some flags and fails for others; the first and the last mirror of RETN. -/
theorem witness_CallsAndReturns :
    [Cond.z, .c, .pe, .m].all (fun cc => holds 0xFF cc && !holds 0x00 cc) = true ∧
    [Cond.nz, .nc, .po, .p].all (fun cc => holds 0x00 cc && !holds 0xFF cc) = true ∧
    ((2 : BitVec 3) ≠ 0 ∧ (2 : BitVec 3) ≠ 1) ∧ ((7 : BitVec 3) ≠ 0 ∧ (7 : BitVec 3) ≠ 1) := by decide

/-- The conditions of DJNZ, of the repeated moves and compares, on both sides. -/
theorem witness_BlockMoves :
    ({ start with c := 1 } : State).bc = 1 ∧ ({ start with c := 2 } : State).bc ≠ 1 ∧ ({ start with b := 1 } : State).b = 1 := by
  decide

theorem witness_Prefixes :
    Instr.passable .exDEHL = true ∧ Instr.passable (.inAPortN 0xFE) = true ∧ Instr.passable (.rstP 7) = true ∧
    ((0xDD : Byte) = 0xDD ∨ (0xDD : Byte) = 0xED ∨ (0xDD : Byte) = 0xFD) ∧
    ((0xED : Byte) = 0xDD ∨ (0xED : Byte) = 0xED ∨ (0xED : Byte) = 0xFD) ∧
    ((0xFD : Byte) = 0xDD ∨ (0xFD : Byte) = 0xED ∨ (0xFD : Byte) = 0xFD) := by decide

theorem witness_DecodeInvertsEncode :
    ((Instr.ldIXNn 0).wf && Instr.followedBy (.ldIXNn 0) []) = true ∧
    ((Instr.ddPass .nop).wf && Instr.followedBy (.ddPass .nop) [0xFF]) = true ∧
    (Instr.ddOverride.wf && Instr.ddOverride.followedBy [0xDD]) = true ∧
    (Instr.fdOverride.wf && Instr.fdOverride.followedBy [0xED, 0xB0]) = true := by decide

theorem witness_EncodeInvertsDecode :
    decode [0xDD, 0x47, 0x00] = .ok (.ddPass (.ldRR .b .a), [0x00]) ∧ decode [0xFD, 0xED] = .ok (.fdOverride, [0xED]) := by decide

theorem witness_EveryByteSequenceRuns : (Instr.ddPass .nop).wf = true ∧ Instr.daa.wf = true := by decide

/-- The state of the test vectors runs the NOP it finds at PC; no host request is pending after it. -/
theorem witness_StepRunsDecoded :
    start.acceptsInt = false ∧ start.halted = false ∧
    decode [start.dosUpdate.memRead start.dosUpdate.pc, start.dosUpdate.memRead (start.dosUpdate.pc + 1),
      start.dosUpdate.memRead (start.dosUpdate.pc + 2), start.dosUpdate.memRead (start.dosUpdate.pc + 3)] =
        .ok (.nop, [0, 0, 0]) ∧
    ∃ t, exec .nop start.dosUpdate = .next t ∧ t.Quiet := ⟨by decide, by decide, by decide, _, rfl, by decide⟩

theorem witness_StepKeepsMemoryForm :
    State.reset.MemoryInv ∧ (bytesAt 0x9000 [0x12] start).MemoryInv ∧ (∃ t, step State.reset = .next t) ∧
      ∃ t, launch State.reset = .next t := ⟨by decide, by decide, ⟨_, rfl⟩, _, rfl⟩

theorem witness_StepKeepsClock :
    0 < State.reset.cfg.frameLen ∧ State.reset.ClockInv ∧ ({ start with t := 71679 } : State).ClockInv ∧
      (∃ t, step State.reset = .next t ∧ t.frameCounter * t.cfg.frameLen < 2 ^ 64) ∧
      ∃ t, launch { start with t := 71680 } = .next t ∧ t.t = 0 ∧ t.tTotal = 71680 :=
  ⟨by decide, by decide, by decide, ⟨_, rfl, by decide⟩, _, rfl, by decide, by decide⟩

theorem witness_StepKeepsTapeAndDisks :
    State.reset.tape.Inv ∧ State.reset.DiskInv ∧ (∃ t, step State.reset = .next t) ∧ ∃ t, launch State.reset = .next t :=
  ⟨by decide, by decide, ⟨_, rfl⟩, _, rfl⟩

theorem witness_StepKeepsParameters : (∃ t, step start = .next t) ∧ ∃ t, launch start = .next t := ⟨⟨_, rfl⟩, _, rfl⟩

/-- Mode 0 with the default bus byte 0xFF, with a restart of the lowest target, and another mode. -/
theorem witness_StepCompletes :
    start.Quiet ∧ start.im = .im0 ∧ start.cfg.intBusByte &&& 0xC7 = 0xC7 ∧ (0xC7 : Byte) &&& 0xC7 = 0xC7 ∧
      ({ start with im := .im1 } : State).im ≠ .im0 := by decide

/-- Accepted at both ends of the window; not accepted after it, after EI and after an overridden prefix. -/
theorem witness_InterruptAcceptance :
    ({ start with iff1 := true } : State).acceptsInt = true ∧ ({ start with iff1 := true, t := 31 } : State).acceptsInt = true ∧
    ({ start with iff1 := true, t := 32 } : State).acceptsInt = false ∧
    (∃ t, exec .ei start = .next t) ∧ (∃ t, exec .ddOverride start = .next t) ∧ ∃ t, exec .fdOverride start = .next t :=
  ⟨by decide, by decide, by decide, ⟨_, rfl⟩, ⟨_, rfl⟩, _, rfl⟩

/-- Every clause of interrupt entry: mode 0 with the highest and the lowest restart, mode 1, mode 2. -/
theorem witness_InterruptEntry :
    start.im = .im0 ∧ start.cfg.intBusByte &&& 0xC7 = 0xC7 ∧ (0xFF : Byte) &&& 0xC7 = 0xC7 ∧ (0xC7 : Byte) &&& 0xC7 = 0xC7 ∧
    ({ start with im := .im1 } : State).im = .im1 ∧ ({ start with im := .im2 } : State).im = .im2 := by decide

/-- Mode 0 with a bus byte that is no restart. -/
theorem witness_OtherBusBytesRefused :
    let s := { start with cfg := { start.cfg with intBusByte := 0xC6 } }
    s.im = .im0 ∧ s.cfg.intBusByte &&& 0xC7 ≠ 0xC7 := by decide

theorem witness_HaltedCycle :
    ({ start with halted := true } : State).acceptsInt = false ∧ ({ start with halted := true } : State).halted = true := by decide

/-- A whole frame and more; no whole frame. -/
theorem witness_FrameWrap :
    0 < start.cfg.frameLen ∧ start.cfg.frameLen ≤ ({ start with t := 71680 } : State).t ∧
      ¬start.cfg.frameLen ≤ ({ start with t := 71679 } : State).t := by decide

/-- Every clause of the DOS-mode update: on, off, and left as it is at the ends of the ranges. -/
theorem witness_DosModeUpdate :
    let on (pc : Word) := ({ start with pc := pc, p7FFD := 0x10 } : State).dosUpdate.dos
    let stays (pc : Word) := ({ start with pc := pc, dos := true } : State).dosUpdate.dos
    start.acceptsInt = false ∧ start.halted = false ∧ on 0x3CFF = false ∧ on 0x3D00 = true ∧ on 0x3DFF = true ∧ on 0x3E00 = false ∧
      stays 0x3FFF = true ∧ stays 0x4000 = false := by decide

/-- Both ends of the four parts of the bank map. -/
theorem witness_BankMap :
    (start.memWrite 0x3FFF 0x12) = start ∧ cellGet (start.memWrite 0x4000 0x12).ram (5 * 0x4000) = 0x12 ∧
    cellGet (start.memWrite 0x7FFF 0x12).ram (5 * 0x4000 + 0x3FFF) = 0x12 ∧
    cellGet (start.memWrite 0x8000 0x12).ram (2 * 0x4000) = 0x12 ∧
    cellGet (({ start with p7FFD := 0x07 } : State).memWrite 0xC000 0x12).ram (7 * 0x4000) = 0x12 ∧
    cellGet (start.memWrite 0xFFFF 0x12).ram 0x3FFF = 0x12 := by decide

/-- Every clause of the port decode: a disk port in DOS mode, an 0xFE port, the paging ports locked and not, another port. -/
theorem witness_PortDecode :
    (({ start with dos := true } : State).portRead 0x003F).1 = 0x00 ∧ (start.portRead 0x003F).1 = 0xFF ∧
    (start.portRead 0x7FFE).1 = 0xBF ∧ (start.portWrite 0x7FFD 0x17).p7FFD = 0x17 ∧
    (({ start with p7FFD := 0x20 } : State).portWrite 0x7FFD 0x17).p7FFD = 0x20 ∧ (start.portWrite 0x1FFD 0x04).p1FFD = 0x04 := by
  decide

/-- A locked latch and an instruction that writes its port. -/
theorem witness_PagingLockHolds :
    ∃ t, exec (.outPortCR .a) { start with p7FFD := 0x20, b := 0x7F, c := 0xFD } = .next t ∧
      ({ start with p7FFD := 0x20 } : State).p7FFD.getLsbD 5 = true := ⟨_, rfl, by decide⟩

theorem witness_OnlyIoTouchesDevices : isIo .nop = false ∧ ∃ t, exec .nop start = .next t := ⟨by decide, _, rfl⟩

/-- A tape that plays one pulse of 100 T. -/
def playing : State := { start with tape := { start.tape with pulses := [100, sentinel], image := [0, 0, 1], playPtr := some 0 } }

/-- Both clauses of the tape level: stopped, and ahead of the present time after the edge at T 0. -/
theorem witness_TapeBitCatchesUp :
    start.tape.playPtr = none ∧ playing.tapeBit.1 = 0xFF ∧ playing.tapeBit.2.tape.edgeChange = 100 ∧
      playing.now < playing.tapeBit.2.tape.edgeChange := by decide

/-- The clauses of one turn: the edge ahead; at the end, at a marker, at the last element; and the reading that goes on. -/
theorem witness_TapeBitCatchesUp_turn :
    let at_ (p : Nat) (image : List Byte) (edge : Time) : State :=
      { playing with tape := { playing.tape with playPtr := some p, image := image, edgeChange := edge } }
    (at_ 0 [0, 0] 1).tapeBit.2 = at_ 0 [0, 0] 1 ∧
    (at_ 2 [0, 0] 0).tapeBit.2.tape.resumePtr = 2 ∧ (at_ 0 [1, 0] 0).tapeBit.2.tape.resumePtr = 1 ∧
    (at_ 1 [0, 0] 0).tapeBit.2.tape.resumePtr = 2 ∧ (at_ 0 [0, 0] 0).tapeBit.2.tape.playPtr = some 1 ∧
    (at_ 0 [0, 0] 0).tapeBit.1 = 0xFF ∧ (at_ 0 [1, 0] 0).tapeBit.1 = 0xFF := by decide

/-- A tape that holds the pulses of the byte 0xA5 and nothing else. -/
theorem witness_TapeByteRoundTrip :
    let tp : Tape := { start.tape with
      pulses := [855, 1710]
      image := [1, 1, 0, 0, 1, 1, 0, 0, 0, 0, 1, 1, 0, 0, 1, 1]
      playPtr := some 0 }
    tp.playPtr = some 0 ∧ 0 + 16 ≤ tp.image.length ∧
      (List.range 16).all (fun k => tp.pulseAt (0 + k) == (bytePulses 0xA5).getD k 0) = true := by decide

/-- A TAP file that loads, and blocks of the lengths at the ends of the range. -/
theorem witness_TapeByteRoundTrip_file :
    (∃ store, loadTap 3500000 (fun _ => "") [0x02, 0x00, 0xFF, 0xFF] = some store) ∧
    (∀ bs ∈ [[], List.replicate 65535 (0 : Byte)], bs.length < 65536) := by
  refine ⟨⟨_, rfl⟩, fun bs h => ?_⟩
  simp only [List.mem_cons, List.not_mem_nil, or_false] at h
  rcases h with rfl | rfl
  · decide
  · rw [List.length_replicate]; decide

/-- 51_tape R650, R651: the data block of the worked example, `FF 00` and its checksum FF, behind its length; a file that ends inside a
block is none. -/
theorem test_tap_layout :
    tapBlocks [0x00, 0x00, 0x03, 0x00, 0xFF, 0x00, 0xFF] = some [[], [0xFF, 0x00, 0xFF]] ∧
    tapBlocks [0x03, 0x00, 0xFF, 0x00] = none := by decide

/-- 51_tape R650: the first bits of a block are its flag's, two pulses each, after pilot and syncs, and they are read back. -/
theorem test_tap_block :
    (blockPulses 3500000 [0x00]).length = 8064 + 2 + 16 + 1 + 1 ∧ (blockPulses 3500000 [0xFF]).length = 3220 + 2 + 16 + 1 + 1 ∧
    pulseBlock ([2168, 2168, 667, 735] ++ bytePulses 0xA5 ++ [3500000, sentinel]) = [0xA5] :=
  ⟨by simp only [blockPulses, List.length_append, List.length_replicate]; decide,
    by simp only [blockPulses, List.length_append, List.length_replicate]; decide, by decide⟩

/-- 60_exceptions R860, 90_conflicts C2: the tape trap fires at the launch boundary of a machine placed at 0x056B. -/
theorem test_launch_trap :
    ∃ t, launch { playing with pc := 0x056B, cfg := { playing.cfg with tapeTraps := true } } = .next t ∧ t.pc = 0x05E2 ∧
      t.tape.playPtr = none :=
  ⟨_, rfl, by decide, by decide⟩

/-- The condition of the tape trap, met and not met. -/
theorem witness_TapeTrapExits :
    let s := { playing with pc := 0x056B, cfg := { playing.cfg with tapeTraps := true } }
    (s.tape.playPtr ≠ none ∧ s.cfg.tapeTraps = true ∧ s.pc = 0x056B) ∧ playing.pc ≠ 0x056B := by decide

/-- A machine at the trap with `de` bytes to load at 0x9000 and a tape that holds a pilot, two syncs and the bytes 0xFF, 0xA5, 0x5A. -/
def atTrap (de : Word) : State :=
  let bit (b : Bool) : List Byte := if b then [4, 4] else [3, 3]
  let byte (v : Byte) : List Byte := [7, 6, 5, 4, 3, 2, 1, 0].flatMap (fun k => bit (v.getLsbD k))
  { playing.setDE de with
    pc := 0x056B
    ix := 0x9000
    cfg := { playing.cfg with tapeTraps := true }
    tape := { playing.tape with
      pulses := [2168, 667, 735, 855, 1710, sentinel]
      image := [0, 0, 1, 2] ++ byte 0xFF ++ byte 0xA5 ++ byte 0x5A ++ [5] } }

/-- 53_hooks_accel R795 to R799: one byte, the checksum behind it, is loaded; of two bytes the second is the checksum missed. -/
theorem witness_TapeTrapExits_verdicts :
    (atTrap 1).trapRun.1 = true ∧ (atTrap 1).tapeTrap.pc = 0x05DF ∧ (atTrap 1).tapeTrap.memRead 0x9000 = 0xA5 ∧
    (atTrap 1).tapeTrap.ix = 0x9001 ∧ (atTrap 1).tapeTrap.de = 0 ∧ (atTrap 1).tapeTrap.l = 0x5A ∧
    (atTrap 2).trapRun.1 = false ∧ (atTrap 2).tapeTrap.pc = 0x05E2 ∧ (atTrap 2).tapeTrap.memRead 0x9001 = 0x5A ∧
    (atTrap 2).tapeTrap.ix = 0x9002 ∧ (atTrap 2).tapeTrap.de = 0 := by decide

/-- The trap on DE = 0, which asks for 65536 bytes: the tape ends first. -/
theorem witness_TapeTrapExits_zero : ((0 : Word).toNat + 65535) % 65536 + 1 = 65536 ∧ (0xFFFF + 65535) % 65536 + 1 = 65535 := by decide

/-- The three delay loops, and the condition of the accelerator met and not met. -/
theorem witness_DelayLoops :
    let s (bs : List Byte) := bytesAt 0x8000 bs { playing with cfg := { playing.cfg with soundEnabled := false } }
    ((s []).tape.playPtr ≠ none ∧ (s []).cfg.soundEnabled = false ∧ playing.cfg.soundEnabled = true) ∧
    (s [0x3D, 0x20, 0xFD]).atDecJr = true ∧ (s [0x10, 0xFE]).atDjnz = true ∧ (s [0x3D, 0xC2, 0x00, 0x80]).atDecJp = true := by decide

/-- The condition of the disk traps and the bytes of the three loops, one at a time; DOS mode off. -/
theorem witness_DiskTraps :
    let s (pc : Word) (b : Byte) := { start with
      pc := pc
      dos := true
      rom := cellSet [] (2 * 0x4000 + pc.toNat) b
      cfg := { start.cfg with trdosTraps := true } }
    ((s 0 0).cfg.trdosPresent = true ∧ (s 0 0).dos = true ∧ (s 0 0).cfg.trdosTraps = true ∧ start.dos = false) ∧
    cellGet (s 0x3DFD 0x3E).rom (2 * 0x4000 + 0x3DFD) = 0x3E ∧ cellGet (s 0x3EA0 0x06).rom (2 * 0x4000 + 0x3EA0) = 0x06 ∧
    cellGet (s 0x3E01 0x0D).rom (2 * 0x4000 + 0x3E01) = 0x0D := by decide

/-- The clauses of a command write: in reset, force interrupt idle and busy, a command while busy, types 1 and 2, not ready. -/
theorem witness_DiskRegisters :
    let on (status v : Byte) := (({ start with wd := { start.wd with state := .idle, status := status } } : State).wdWriteReg 0x1F v).wd
    (start.wdWriteReg 0x1F 0x08).wd.state = .reset ∧ (on 0x80 0xD8).rqs = 0x80 ∧ (on 0x01 0xD0).state = .idle ∧
    (on 0x01 0x08).state = .idle ∧ (on 0x00 0x7F).state = .type1Cmd ∧ (on 0x00 0x80).state = .delayBeforeCmd := by decide

/-- The clauses of the system port: the master reset, its end, and a plain write while it is off. -/
theorem witness_DiskRegisters_system :
    (start.wdWriteReg 0xFF 0x18).wd.state = .reset ∧ (start.wdWriteReg 0xFF 0x1C).wd.state = .type1Cmd ∧
    (start.wdWriteReg 0xFF 0x1C).wd.status = 0x01 ∧
    (({ start with wd := { start.wd with state := .idle, system := 0x04 } } : State).wdWriteReg 0xFF 0x3C).wd.state = .idle := by
  decide

/-- The second half: a type 2 command to a drive that is not ready ends at once. -/
theorem witness_DiskRegisters_notReady :
    let w := (({ start with wd := { start.wd with state := .idle, status := 0x80 } } : State).wdWriteReg 0x1F 0x80).wd
    w.state = .idle ∧ w.rqs = 0x80 ∧ w.status = 0x80 := by decide

/-- Sectors of the smallest and the largest length. -/
theorem witness_TrackFormat :
    (List.replicate 128 (0 : Byte)).length = 128 * 2 ^ ((0 : Byte).toNat % 4) ∧
    (List.replicate 1024 (0 : Byte)).length = 128 * 2 ^ ((0xFF : Byte).toNat % 4) := by
  refine ⟨List.length_replicate .., ?_⟩
  rw [List.length_replicate]; decide

end Sys2Proof.Tests
end

section
/-! Which instruction a step runs, and what is left of the boundary when the host asks for nothing (00_scope R18, 60_exceptions R860). -/

namespace Sys2Proof.Machine

/-- On four bytes, the longest an instruction can be, `decode` yields what the fetch reads from the same bytes. -/
theorem decode4_of_decode {b0 b1 b2 b3 : Byte} {i : Instr} {rest : List Byte} (h : decode [b0, b1, b2, b3] = .ok (i, rest)) :
    decode4 b0 b1 b2 b3 = i := by
  simp only [decode] at h
  split at h
  case isTrue => cases h
  case isFalse =>
    split at h
    case isTrue => cases h
    case isFalse => exact congrArg Prod.fst (Except.ok.inj h)

theorem State.fetchInstr_of_decode {s : State} {i : Instr} {rest : List Byte}
    (h : decode [s.memRead s.pc, s.memRead (s.pc + 1), s.memRead (s.pc + 2), s.memRead (s.pc + 3)] = .ok (i, rest)) :
    s.fetchInstr = i :=
  decode4_of_decode h

theorem execPart_of_running {s : State} (ha : s.acceptsInt = false) (hh : s.halted = false) :
    execPart s = exec s.dosUpdate.fetchInstr s.dosUpdate := by
  simp [execPart, ha, hh]

theorem State.takeRequests_of_quiet {s : State} (hq : s.Quiet) : s.takeRequests = .next s := by
  have hs : { s with requests := [] } = s := by rw [← hq]
  rw [State.takeRequests, hs, hq, State.performAll]

/-- With no host request pending, the boundary is the hook and the frame wrap. -/
theorem boundary_of_quiet {s : State} (hq : s.Quiet) : boundary s = .next s.hook.wrapFrames := by
  rw [boundary, State.takeRequests_of_quiet hq, andThen]

/-- Settles O36: a running step fetches through the map after the DOS-mode update, and a quiet boundary takes no request. -/
theorem stepRunsDecoded : Obligations.StepRunsDecoded := by
  intro s i rest ha hh u hd
  have hstep : step s = andThen (exec i u) boundary := by
    rw [step, execPart_of_running ha hh, State.fetchInstr_of_decode hd]
  refine ⟨hstep, fun t ht hq => ?_⟩
  rw [hstep, ht, andThen, boundary_of_quiet hq]

end Sys2Proof.Machine
end

section
/-! What a turn of the machine, a step or a launch, does to the parameters, the ROM pool and the invariants; the request and the state of
reset (10_state R110 to R114; 60_exceptions R860 to R862; 70_reset_and_hazards R880 to R886). -/

namespace Sys2Proof.Machine

/-! ### A turn as one change -/

/-- What an instruction or the hook keeps is kept in the sense of the host requests too, the pending requests apart. -/
theorem Kept.asked {s t : State} (h : Kept s t) : Asked { s with requests := [] } { t with requests := [] } where
  cfg := h.cfg
  rom := h.rom
  requests := rfl
  clock := fun ⟨htotal, hei⟩ => ⟨by rw [h.tTotal, h.frames, h.cfg]; exact htotal, h.ei hei⟩
  tape := h.tape.inv
  ram := h.ram
  disk := h.disk

theorem State.hook_asked (s : State) : Asked s s.hook :=
  { s.hook_kept.asked with requests := s.hook_kept.requests }

/-- A frame wrap moves whole frames from `t` to `T_total`, and `ei_pos` with `t`. -/
theorem State.wrapFrames_asked (s : State) : Asked s s.wrapFrames := by
  rw [State.wrapFrames_eq]
  refine ⟨rfl, rfl, rfl, fun ⟨htotal, hei⟩ => ⟨?_, ?_⟩, id, id, id⟩
  · show later s.tTotal _ = _
    rw [later, htotal, ← BitVec.ofNat_add, ← Nat.add_mul]
  · have hdiv := Nat.mod_add_div' s.t s.cfg.frameLen
    dsimp only
    omega

theorem State.wrapFrames_t_lt (s : State) (h : 0 < s.cfg.frameLen) : s.wrapFrames.t < s.wrapFrames.cfg.frameLen := by
  rw [State.wrapFrames_eq]
  exact Nat.mod_lt _ h

/-- A step or a launch is a frame wrap after a change that keeps the parameters, the ROM pool and each invariant. -/
theorem turn_wraps {s t : State} (h : step s = .next t ∨ launch s = .next t) :
    ∃ w, Asked { s with requests := [] } w ∧ t = w.wrapFrames := by
  obtain ⟨u, v, hu, hv, rfl⟩ := turn_cases h
  exact ⟨v.hook, hu.asked.trans (hv.trans v.hook_asked), rfl⟩

/-- A step or a launch keeps the parameters, the ROM pool and each invariant. -/
theorem turn_asked {s t : State} (h : step s = .next t ∨ launch s = .next t) : Asked { s with requests := [] } t := by
  obtain ⟨w, hw, rfl⟩ := turn_wraps h
  exact hw.trans w.wrapFrames_asked

theorem turn_t_lt {s t : State} (h : step s = .next t ∨ launch s = .next t) (hf : 0 < s.cfg.frameLen) : t.t < t.cfg.frameLen := by
  obtain ⟨w, hw, rfl⟩ := turn_wraps h
  exact w.wrapFrames_t_lt (hw.cfg.symm ▸ hf)

/-- Where the frames counted fit the 64 bits of `T_total`, it is a multiple of the frame length (10_state R61). -/
theorem State.ClockInv.tTotal_mod {s : State} (h : s.ClockInv) (hfit : s.frameCounter * s.cfg.frameLen < 2 ^ 64) :
    s.tTotal.toNat % s.cfg.frameLen = 0 := by
  obtain ⟨_, htotal, _⟩ := h
  rw [htotal, BitVec.toNat_ofNat, Nat.mod_eq_of_lt hfit, Nat.mul_mod_left]

/-- Settles O40: a turn writes RAM through the bank map or replaces it by a canonical memory, and leaves the ROM pool alone. -/
theorem stepKeepsMemoryForm : Obligations.StepKeepsMemoryForm := by
  intro s t ⟨hram, hrom⟩ h
  have ha := turn_asked h
  exact ⟨ha.ram hram, by rw [ha.rom]; exact hrom⟩

/-- Settles O41: what comes before the frame wrap keeps the count of whole frames, and the wrap brings `t` inside the frame. -/
theorem stepKeepsClock : Obligations.StepKeepsClock := by
  intro s t hf ⟨_, hclock⟩ h
  have hinv : t.ClockInv := ⟨turn_t_lt h hf, (turn_asked h).clock hclock⟩
  exact ⟨hinv, hinv.tTotal_mod⟩

/-- Settles O42: each part of a turn keeps the tape invariant and the disk invariant on its own. -/
theorem stepKeepsTapeAndDisks : Obligations.StepKeepsTapeAndDisks := by
  intro s t htape hdisk h
  exact ⟨(turn_asked h).tape htape, (turn_asked h).disk hdisk⟩

/-- Settles O43: no part of a turn, a reset and a snapshot load among them, writes the ROM pool or a parameter. -/
theorem stepKeepsParameters : Obligations.StepKeepsParameters := by
  intro s t h
  exact ⟨(turn_asked h).rom, (turn_asked h).cfg⟩

/-! ### Reset -/

theorem Four.get_map {α β : Type} (g : α → β) (f : Four α) (d : BitVec 2) :
    Four.get ⟨g f.d0, g f.d1, g f.d2, g f.d3⟩ d = g (f.get d) := by
  fin_cases d <;> rfl

/-- A reset stops the tape, keeping the position it played at for a later start, and arms autostart where a tape is loaded
(10_state R113). -/
theorem Tape.afterReset_eq (tp : Tape) :
    tp.afterReset = { tp with
      playPtr := none
      resumePtr := tp.playPtr.getD tp.resumePtr
      edgeChange := 0
      bit := 0x00
      autostartArmed := decide (0 < tp.image.length) } := by
  have harm : (!tp.image.isEmpty) = decide (0 < tp.image.length) := by cases tp.image <;> simp
  cases hp : tp.playPtr <;> simp [Tape.afterReset, Tape.stop, hp, harm]

theorem State.hardReset_drive (s : State) (d : BitVec 2) : s.hardReset.drives.get d = (s.drives.get d).motorOff :=
  Four.get_map Drive.motorOff s.drives d

/-- Settles O39: the request answers `State.hardReset`, and the free values it draws are the unspecified registers. -/
theorem resetRequest : Obligations.ResetRequest := by
  intro s
  refine ⟨s.hardReset, rfl, ?cpu, ?clock, s.tape.afterReset_eq, rfl, rfl, ?drives, rfl, rfl, rfl, rfl, rfl⟩
  case cpu => exact ⟨rfl, rfl, rfl, rfl, rfl, rfl, rfl, rfl, rfl, rfl⟩
  case clock => exact ⟨rfl, rfl, rfl, rfl, rfl, rfl, rfl⟩
  case drives => intro d; rw [State.hardReset_drive]; exact ⟨rfl, rfl⟩

/-- The launch boundary has nothing to do right after power-on (70_reset_and_hazards R886). -/
theorem launch_reset : launch State.reset = .next State.reset := launch_idle rfl rfl rfl (by decide)

/-- Where the launch boundary changes nothing, a run is its steps. -/
theorem run_of_launch {s : State} (h : launch s = .next s) (n : Nat) : run n s = steps n s := by rw [run, h, andThen]

/-- Settles O37: the values stand in the literal `State.reset`, and the run follows from the idle launch. -/
theorem resetLeaves : Obligations.ResetLeaves := by
  refine ⟨?cpu, ?clock, ?paging, ?tape, ?controller, ?motors, launch_reset, run_of_launch launch_reset⟩
  all_goals decide

/-- Settles O38: nothing is listed in the memories, no tape is loaded, and the drives are empty with their heads at cylinder 0. -/
theorem resetMeetsInvariants : Obligations.ResetMeetsInvariants :=
  ⟨reset_memory_wf, by decide, by decide, by decide⟩

end Sys2Proof.Machine
end

section
/-! The bank map, the port decode and the DOS-mode update (20_memory R124 to R148). -/

namespace Sys2Proof.Machine

open Claim (bits)

/-! ### The bank map -/

/-- The bank map in addresses: the upper two bits choose the bank, the lower fourteen are the offset (20_memory R124, R125). -/
theorem State.place_eq (s : State) (addr : Word) :
    s.place addr =
      if addr.toNat < 0x4000 then .rom (s.romPage * 0x4000 + addr.toNat)
      else if addr.toNat < 0x8000 then .ram (5 * 0x4000 + (addr.toNat - 0x4000))
      else if addr.toNat < 0xC000 then .ram (2 * 0x4000 + (addr.toNat - 0x8000))
      else .ram (s.p7FFD.toNat % 8 * 0x4000 + (addr.toNat - 0xC000)) := by
  have hlt := addr.isLt
  have hoff : (addr.extractLsb' 0 14).toNat = addr.toNat % 0x4000 := by simp [BitVec.extractLsb'_toNat]
  have hhigh : (s.p7FFD.extractLsb' 0 3).toNat = s.p7FFD.toNat % 8 := by simp [BitVec.extractLsb'_toNat]
  have hbank : addr.extractLsb' 14 2 = BitVec.ofNat 2 (addr.toNat / 0x4000) := by
    apply BitVec.eq_of_toNat_eq
    rw [BitVec.extractLsb'_toNat, BitVec.toNat_ofNat, Nat.shiftRight_eq_div_pow]
  simp only [State.place, cellKey, hoff, hhigh, hbank]
  split_ifs with h0 h1 h2
  · rw [show addr.toNat / 0x4000 = 0 by omega, Nat.mod_eq_of_lt h0]; rfl
  · rw [show addr.toNat / 0x4000 = 1 by omega, show addr.toNat % 0x4000 = addr.toNat - 0x4000 by omega]; rfl
  · rw [show addr.toNat / 0x4000 = 2 by omega, show addr.toNat % 0x4000 = addr.toNat - 0x8000 by omega]; rfl
  · rw [show addr.toNat / 0x4000 = 3 by omega, show addr.toNat % 0x4000 = addr.toNat - 0xC000 by omega]; rfl

/-- An address that leads to a cell of RAM reads it; a write gives that cell the byte and changes no other. -/
theorem State.ram_cell {s : State} {addr : Word} {k : Nat} (h : s.place addr = .ram k) (v : Byte) :
    s.memRead addr = cellGet s.ram k ∧
    (∀ j, cellGet (s.memWrite addr v).ram j = if j = k then v else cellGet s.ram j) ∧
    s.memWrite addr v = { s with ram := (s.memWrite addr v).ram } := by
  refine ⟨by rw [State.memRead, h], fun j => ?_, s.memWrite_eq addr v⟩
  simp only [s.cellGet_memWrite_ram, h, Place.ram.injEq, eq_comm]

/-- An address that leads to a cell of the ROM pool reads it, and a write there changes nothing. -/
theorem State.rom_cell {s : State} {addr : Word} {k : Nat} (h : s.place addr = .rom k) (v : Byte) :
    s.memRead addr = cellGet s.rom k ∧ s.memWrite addr v = s :=
  ⟨by rw [State.memRead, h], by rw [State.memWrite, h]⟩

/-- Settles O51, part by part of the bank map. -/
theorem bankMap : Obligations.BankMap := by
  intro s addr v
  have hplace := s.place_eq addr
  dsimp only
  by_cases h0 : addr.toNat < 0x4000
  · rw [if_pos h0] at hplace ⊢; exact State.rom_cell hplace v
  rw [if_neg h0] at hplace ⊢
  by_cases h1 : addr.toNat < 0x8000
  · rw [if_pos h1] at hplace ⊢; exact State.ram_cell hplace v
  rw [if_neg h1] at hplace ⊢
  by_cases h2 : addr.toNat < 0xC000
  · rw [if_pos h2] at hplace ⊢; exact State.ram_cell hplace v
  rw [if_neg h2] at hplace ⊢
  exact State.ram_cell hplace v

/-! ### The ports -/

theorem isDiskPort_iff (lo : Byte) :
    isDiskPort lo = true ↔ lo = 0x1F ∨ lo = 0x3F ∨ lo = 0x5F ∨ lo = 0x7F ∨ lo = 0xFF := by
  simp [isDiskPort, or_assoc]

/-- The disk ports respond where TR-DOS is present and active, by the low byte of the port (20_memory R140 line (1)). -/
theorem State.diskResponds_iff (s : State) (p : Word) :
    s.diskResponds p = true ↔ s.cfg.trdosPresent = true ∧ s.dos = true ∧
      (loByte p = 0x1F ∨ loByte p = 0x3F ∨ loByte p = 0x5F ∨ loByte p = 0x7F ∨ loByte p = 0xFF) := by
  simp only [State.diskResponds, Bool.and_eq_true, isDiskPort_iff, and_assoc]

/-- The byte of port 0xFE: the level in bit 6, the keyboard rows in bits 4 to 0, and ones elsewhere (20_memory R141). -/
theorem readFE_byte (rows : BitVec 5) (level : Byte) :
    (0b111#3 ++ rows) &&& (0xBF ||| (level &&& 0x40)) =
      bits true (level.getLsbD 6) true (rows.getLsbD 4) (rows.getLsbD 3) (rows.getLsbD 2) (rows.getLsbD 1) (rows.getLsbD 0) := by
  have hlevel : level &&& 0x40 = if level.getLsbD 6 then 0x40 else 0 := by revert level; decide
  rw [hlevel]
  generalize level.getLsbD 6 = e
  revert rows e
  decide

theorem State.autostart_eq (s : State) :
    s.autostart =
      if s.cfg.tapeAutostart = true ∧ s.tape.autostartArmed = true ∧ s.tape.playPtr = none ∧ 0 < s.tape.image.length then
        { s with tape := s.tape.start s.now }
      else s := by
  simp only [State.autostart, Bool.and_eq_true, decide_eq_true_eq, Option.isNone_iff_eq_none, and_assoc]

theorem State.write7FFD_eq (s : State) (v : Byte) :
    s.write7FFD v = if s.cfg.model48k = true ∨ s.p7FFD.getLsbD 5 = true then s else { s with p7FFD := v } := by
  simp only [State.write7FFD, Bool.or_eq_true]

/-- Settles O52, line by line of the decode. -/
theorem portDecode : Obligations.PortDecode := by
  intro s p v
  dsimp only
  rw [← s.autostart_eq, ← s.write7FFD_eq]
  split
  case isTrue hdisk =>
    have hd := (s.diskResponds_iff p).2 hdisk
    exact ⟨by rw [State.portRead, if_pos hd], by rw [State.portWrite, if_pos hd]⟩
  case isFalse hdisk =>
    have hd := fun h => hdisk ((s.diskResponds_iff p).1 h)
    rw [State.portRead, State.portWrite, if_neg hd, if_neg hd]
    split
    case isTrue => exact ⟨rfl, readFE_byte _ _, rfl⟩
    case isFalse => exact ⟨rfl, rfl⟩

/-! ### The DOS-mode update -/

theorem State.dosUpdate_eq (s : State) :
    s.dosUpdate = { s with
      dos :=
        if s.cfg.trdosPresent = true ∧ s.dos = false ∧ s.pc.toNat / 256 = 0x3D ∧ (s.p7FFD.getLsbD 4 = true ∨ s.cfg.model48k = true)
        then true
        else if s.dos = true ∧ 0x4000 ≤ s.pc.toNat then false
        else s.dos } := by
  have hpage : s.pc.extractLsb' 8 8 = 0x3D ↔ s.pc.toNat / 256 = 0x3D := by
    rw [← BitVec.toNat_inj, BitVec.extractLsb'_toNat, Nat.shiftRight_eq_div_pow]
    have := s.pc.isLt
    simp; omega
  simp only [State.dosUpdate, Bool.and_eq_true, Bool.or_eq_true, Bool.not_eq_true', beq_iff_eq, decide_eq_true_eq, hpage, and_assoc]
  split
  case isTrue => rfl
  case isFalse => split <;> rfl

/-- Settles O50: the update in one equation, and the exec part of a step that neither takes an interrupt nor is halted. -/
theorem dosModeUpdate : Obligations.DosModeUpdate := fun s =>
  ⟨s.dosUpdate_eq, fun ha hh => by rw [step, execPart_of_running ha hh]⟩

end Sys2Proof.Machine
end

section
/-! Which instructions reach the devices (20_memory R139 to R148): what no instruction but an input or an output changes, and what none
changes once the paging latch is locked. -/

namespace Sys2Proof.Machine

open Claim (isIo)

/-! ### Passed-over DD and FD bytes -/

/-- What runs behind a passed-over DD or FD is the instruction itself (50_undocumented R571). -/
theorem passedOver_next {i : Instr} {s t : State} (h : passedOver i s = .next t) : exec i s = .next t := by
  cases i
  case nop | exAFAF | djnzE | jrE | jrNZE | jrZE | jrNCE | jrCE | ldDdNn | ldIndBCA | ldIndDEA | ldIndNnA | ldAIndBC | ldAIndDE |
      ldAIndNn | incSs | decSs | incR | decR | ldRN | rlca | rrca | rla | rra | daa | cpl | scf | ccf | ldRR | halt | addAR |
      addAN | adcAR | adcAN | subR | subN | sbcAR | sbcAN | andR | andN | xorR | xorN | orR | orN | cpR | cpN | retCc | popQq |
      ret | exx | jpCcNn | jpNn | outPortNA | inAPortN | exDEHL | di | ei | callCcNn | pushQq | callNn | rstP =>
    exact h
  all_goals cases h

/-- A passed-over DD or FD takes one fetch and then runs an instruction that can stand behind it. -/
theorem passPrefix_next {i : Instr} {s t : State} (h : passPrefix i s = .next t) :
    i.passable = true ∧ exec i (s.fetched 1 1 4) = .next t := by
  unfold passPrefix at h
  split at h
  case isTrue hp => exact ⟨hp, passedOver_next h⟩
  case isFalse => cases h

/-- Behind a passed-over DD or FD an instruction is an input or an output where it is one alone. -/
theorem isIo_pass {i : Instr} (h : i.passable = true) : isIo (.ddPass i) = isIo i ∧ isIo (.fdPass i) = isIo i := by
  cases i
  case inRPortC | inPortC | outPortCR | outPortC0 | ini | inir | ind | indr | outi | otir | outd | otdr | ddPass | fdPass =>
    cases h
  all_goals exact ⟨rfl, rfl⟩

/-! ### The devices -/

/-- The tape, the disk system and the latches of the ports. -/
def State.devices (s : State) : Tape × Four Disk × Four Drive × Wd × Byte × Byte × Byte :=
  (s.tape, s.disks, s.drives, s.wd, s.pFE, s.p7FFD, s.p1FFD)

theorem State.devices_eq_iff {s t : State} :
    t.devices = s.devices ↔
      t.tape = s.tape ∧ t.disks = s.disks ∧ t.drives = s.drives ∧ t.wd = s.wd ∧ t.pFE = s.pFE ∧ t.p7FFD = s.p7FFD ∧
        t.p1FFD = s.p1FFD := by
  simp only [State.devices, Prod.mk.injEq]

theorem State.memWrite_devices (s : State) (addr : Word) (v : Byte) : (s.memWrite addr v).devices = s.devices := by
  rw [s.memWrite_eq addr v]; rfl

theorem State.memWrite16_devices (s : State) (addr v : Word) : (s.memWrite16 addr v).devices = s.devices :=
  (State.memWrite_devices _ _ _).trans (s.memWrite_devices _ _)

theorem State.push16_devices (s : State) (v : Word) : (s.push16 v).devices = s.devices := by
  rw [s.push16_eq v]
  exact (State.memWrite_devices _ _ _).trans (State.memWrite_devices _ _ _)

theorem State.putTop_devices (s : State) (v : Word) : (s.putTop v).devices = s.devices :=
  (State.memWrite_devices _ _ _).trans (s.memWrite_devices _ _)

theorem State.blockMove_devices (s : State) (by1 : Word) : (s.blockMove by1).devices = s.devices := s.memWrite_devices _ _

theorem State.blockCompare_devices (s : State) (by1 : Word) : (s.blockCompare by1).devices = s.devices := rfl

theorem State.popPC_devices (s : State) : s.popPC.devices = s.devices := rfl

theorem State.returnInt_devices (s : State) : s.returnInt.devices = s.devices := s.popPC_devices

theorem State.jumpRel_devices (s : State) (e : Byte) : (s.jumpRel e).devices = s.devices := rfl

theorem State.setReg_devices (s : State) (r : Reg8) (v : Byte) : (s.setReg r v).devices = s.devices := by cases r <;> rfl

theorem State.setRegIX_devices (s : State) (r : RegXY) (v : Byte) : (s.setRegIX r v).devices = s.devices := by cases r <;> rfl

theorem State.setRegIY_devices (s : State) (r : RegXY) (v : Byte) : (s.setRegIY r v).devices = s.devices := by cases r <;> rfl

theorem State.setPairSP_devices (s : State) (p : PairSP) (v : Word) : (s.setPairSP p v).devices = s.devices := by cases p <;> rfl

theorem State.setPairAF_devices (s : State) (p : PairAF) (v : Word) : (s.setPairAF p v).devices = s.devices := by cases p <;> rfl

theorem State.jumpIf_devices (s : State) (c : Bool) (e : Byte) : (s.jumpIf c e).devices = s.devices := by cases c <;> rfl

theorem State.repeatBlock_devices (s : State) (again : Bool) : (s.repeatBlock again).devices = s.devices := by
  cases again <;> rfl

theorem State.devices_ite {s t u : State} {c : Prop} [Decidable c] (ht : t.devices = s.devices) (hu : u.devices = s.devices) :
    (if c then t else u).devices = s.devices := by
  split <;> assumption

theorem devices_of_next {s t u : State} (h : (.next u : Result) = .next t) (hu : u.devices = s.devices) :
    t.devices = s.devices :=
  Host.Outcome.next.inj h ▸ hu

/-- An instruction other than an input or an output leaves the devices as they are: it changes registers and time, and RAM by stores
and pushes. -/
theorem exec_devices {i : Instr} {s t : State} (hio : isIo i = false) (h : exec i s = .next t) : t.devices = s.devices := by
  induction i generalizing s
  case ddPass inner ih =>
    obtain ⟨hp, hx⟩ := passPrefix_next h
    exact (ih ((isIo_pass hp).1.symm.trans hio) hx :)
  case fdPass inner ih =>
    obtain ⟨hp, hx⟩ := passPrefix_next h
    exact (ih ((isIo_pass hp).2.symm.trans hio) hx :)
  case inAPortN | inRPortC | inPortC | outPortNA | outPortCR | outPortC0 | ini | inir | ind | indr | outi | otir | outd | otdr =>
    cases hio
  case ldIndBCA | ldIndDEA | ldIndNnA | incIndHL | decIndHL | ldIndHLN | ldIndHLR | rlcIndHL | rrcIndHL | rlIndHL | rrIndHL |
      slaIndHL | sraIndHL | srlIndHL | sllIndHL | resBIndHL | setBIndHL | rrd | rld | incIndIXd | decIndIXd | ldIndIXdN |
      ldIndIXdR | rlcIndIXd | rrcIndIXd | rlIndIXd | rrIndIXd | slaIndIXd | sraIndIXd | srlIndIXd | sllIndIXd | resBIndIXd |
      setBIndIXd | incIndIYd | decIndIYd | ldIndIYdN | ldIndIYdR | rlcIndIYd | rrcIndIYd | rlIndIYd | rrIndIYd | slaIndIYd |
      sraIndIYd | srlIndIYd | sllIndIYd | resBIndIYd | setBIndIYd =>
    exact devices_of_next h (State.memWrite_devices _ _ _)
  case rlcIndIXdR | rrcIndIXdR | rlIndIXdR | rrIndIXdR | slaIndIXdR | sraIndIXdR | srlIndIXdR | sllIndIXdR | resBIndIXdR |
      setBIndIXdR | rlcIndIYdR | rrcIndIYdR | rlIndIYdR | rrIndIYdR | slaIndIYdR | sraIndIYdR | srlIndIYdR | sllIndIYdR |
      resBIndIYdR | setBIndIYdR =>
    exact devices_of_next h ((State.setReg_devices _ _ _).trans (State.memWrite_devices _ _ _))
  case ldIndNnHL | ldIndNnDd | ldIndNnIX | ldIndNnIY => exact devices_of_next h (State.memWrite16_devices _ _ _)
  case pushQq | pushIX | pushIY | callNn | rstP => exact devices_of_next h (State.push16_devices _ _)
  case exIndSPHL | exIndSPIX | exIndSPIY => exact devices_of_next h (State.putTop_devices _ _)
  case ldi | ldd => exact devices_of_next h (State.blockMove_devices _ _)
  case ldir | lddr => exact devices_of_next h ((State.repeatBlock_devices _ _).trans (State.blockMove_devices _ _))
  case cpi | cpd => exact devices_of_next h (State.blockCompare_devices _ _)
  case cpir | cpdr => exact devices_of_next h ((State.repeatBlock_devices _ _).trans (State.blockCompare_devices _ _))
  case incR | decR | ldRN | ldRR | ldRIndHL | rlcR | rrcR | rlR | rrR | slaR | sraR | srlR | sllR | resBR | setBR | ldRIndIXd |
      ldRIndIYd =>
    exact devices_of_next h (State.setReg_devices _ _ _)
  case ldPPIX => exact devices_of_next h (State.setRegIX_devices _ _ _)
  case ldPPIY => exact devices_of_next h (State.setRegIY_devices _ _ _)
  case ldDdNn | incSs | decSs | ldDdIndNn => exact devices_of_next h (State.setPairSP_devices _ _ _)
  case popQq => exact devices_of_next h (State.setPairAF_devices _ _ _)
  case djnzE | jrNZE | jrZE | jrNCE | jrCE => exact devices_of_next h (State.jumpIf_devices _ _ _)
  case jrE => exact devices_of_next h (State.jumpRel_devices _ _)
  case jpCcNn => exact devices_of_next h (State.devices_ite rfl rfl)
  case ret => exact devices_of_next h (State.popPC_devices _)
  case retCc => exact devices_of_next h (State.devices_ite (State.popPC_devices _) rfl)
  case retn | reti | retnMirror => exact devices_of_next h (State.returnInt_devices _)
  case callCcNn => exact devices_of_next h (State.devices_ite (State.push16_devices _ _) rfl)
  all_goals exact devices_of_next h rfl

/-- Settles O54, from the frame of the devices over all instructions. -/
theorem onlyIoTouchesDevices : Obligations.OnlyIoTouchesDevices := fun _ _ _ hio h =>
  State.devices_eq_iff.1 (exec_devices hio h)

/-! ### The paging lock -/

theorem p7FFD_of_devices {s t : State} (h : t.devices = s.devices) : t.p7FFD = s.p7FFD := by
  obtain ⟨-, -, -, -, -, hp, -⟩ := State.devices_eq_iff.1 h
  exact hp

theorem State.portRead_p7FFD (s : State) (p : Word) : (s.portRead p).2.p7FFD = s.p7FFD := by rw [s.portRead_frame p]

/-- A locked paging latch is written through no port (20_memory R143). -/
theorem State.portWrite_locked (s : State) (p : Word) (v : Byte) (hl : s.p7FFD.getLsbD 5 = true) :
    (s.portWrite p v).p7FFD = s.p7FFD := by
  unfold State.portWrite
  split
  case isTrue =>
    have hwd := (s.wdProcess_step.trans ((State.wdWriteReg_step s.wdProcess (loByte p) v).trans (State.wdProcess_step _))).frame
    rw [hwd]
  case isFalse =>
    split
    case isTrue => rfl
    case isFalse =>
      split
      case isTrue => rw [s.write7FFD_eq, if_pos (.inr hl)]
      case isFalse => split <;> rfl

theorem State.blockIn_p7FFD (s : State) (by1 : Word) : (s.blockIn by1).p7FFD = s.p7FFD :=
  (State.memWrite_p7FFD _ _ _).trans (State.portRead_p7FFD _ _)

theorem State.blockOut_locked (s : State) (by1 : Word) (hl : s.p7FFD.getLsbD 5 = true) : (s.blockOut by1).p7FFD = s.p7FFD :=
  State.portWrite_locked _ _ _ hl

theorem State.repeatBlock_p7FFD (s : State) (again : Bool) : (s.repeatBlock again).p7FFD = s.p7FFD :=
  p7FFD_of_devices (s.repeatBlock_devices again)

/-- Settles O53: an input leaves the latches alone, an output finds the latch locked, and nothing else reaches the ports. -/
theorem pagingLockHolds : Obligations.PagingLockHolds := by
  intro i s t h hl
  induction i generalizing s
  case ddPass inner ih => exact (ih _ (passPrefix_next h).2 hl :)
  case fdPass inner ih => exact (ih _ (passPrefix_next h).2 hl :)
  case inAPortN | inPortC => obtain rfl := Host.Outcome.next.inj h; exact State.portRead_p7FFD _ _
  case inRPortC =>
    obtain rfl := Host.Outcome.next.inj h
    exact (State.setReg_p7FFD _ _ _).trans (State.portRead_p7FFD _ _)
  case ini | ind => obtain rfl := Host.Outcome.next.inj h; exact State.blockIn_p7FFD _ _
  case inir | indr =>
    obtain rfl := Host.Outcome.next.inj h
    exact (State.repeatBlock_p7FFD _ _).trans (State.blockIn_p7FFD _ _)
  case outPortNA | outPortCR | outPortC0 => obtain rfl := Host.Outcome.next.inj h; exact State.portWrite_locked _ _ _ hl
  case outi | outd => obtain rfl := Host.Outcome.next.inj h; exact State.blockOut_locked _ _ hl
  case otir | otdr =>
    obtain rfl := Host.Outcome.next.inj h
    exact (State.repeatBlock_p7FFD _ _).trans (State.blockOut_locked _ _ hl)
  all_goals exact p7FFD_of_devices (exec_devices rfl h)

end Sys2Proof.Machine
end

section
/-! The opcode byte by its fields and by the codes in them, and the split of a word into its bytes (30_encoding R172 to R174). -/

namespace Sys2Proof.Machine

theorem code1_cases {motive : BitVec 1 → Prop} (h0 : motive 0) (h1 : motive 1) (q : BitVec 1) : motive q := by
  have h : q = 0 ∨ q = 1 := by decide +revert
  rcases h with rfl | rfl <;> assumption

theorem code2_cases {motive : BitVec 2 → Prop} (h0 : motive 0) (h1 : motive 1) (h2 : motive 2) (h3 : motive 3)
    (x : BitVec 2) : motive x := by
  have h : x = 0 ∨ x = 1 ∨ x = 2 ∨ x = 3 := by decide +revert
  rcases h with rfl | rfl | rfl | rfl <;> assumption

theorem code3_cases {motive : BitVec 3 → Prop} (h0 : motive 0) (h1 : motive 1) (h2 : motive 2) (h3 : motive 3)
    (h4 : motive 4) (h5 : motive 5) (h6 : motive 6) (h7 : motive 7) (y : BitVec 3) : motive y := by
  have h : y = 0 ∨ y = 1 ∨ y = 2 ∨ y = 3 ∨ y = 4 ∨ y = 5 ∨ y = 6 ∨ y = 7 := by decide +revert
  rcases h with rfl | rfl | rfl | rfl | rfl | rfl | rfl | rfl <;> assumption

/-- A 3-bit operand code names a register, or is 6, the operand in memory (30_encoding R173). -/
theorem reg8_cases {motive : BitVec 3 → Prop} (reg : ∀ r : Reg8, motive r.code) (indirect : motive 6) (z : BitVec 3) :
    motive z := by
  cases z using code3_cases
  case h0 => exact reg .b
  case h1 => exact reg .c
  case h2 => exact reg .d
  case h3 => exact reg .e
  case h4 => exact reg .h
  case h5 => exact reg .l
  case h6 => exact indirect
  case h7 => exact reg .a

theorem opXYZ_fields (op : Byte) : opXYZ (opX op) (opY op) (opZ op) = op := by decide +revert

theorem opcode_cases {motive : Byte → Prop} (fields : ∀ x y z, motive (opXYZ x y z)) (op : Byte) : motive op :=
  opXYZ_fields op ▸ fields (opX op) (opY op) (opZ op)

@[simp] theorem opX_opXYZ (x : BitVec 2) (y z : BitVec 3) : opX (opXYZ x y z) = x := by decide +revert
@[simp] theorem opY_opXYZ (x : BitVec 2) (y z : BitVec 3) : opY (opXYZ x y z) = y := by decide +revert
@[simp] theorem opZ_opXYZ (x : BitVec 2) (y z : BitVec 3) : opZ (opXYZ x y z) = z := by decide +revert
@[simp] theorem reg8Of_code (r : Reg8) : reg8Of r.code = some r := by cases r <;> rfl
@[simp] theorem reg8Of_six : reg8Of 6#3 = none := rfl

/-! ### Prefix bytes and lengths (30_encoding R182) -/

theorem isPrefix_iff (op : Byte) : isPrefix op = true ↔ op = 0xCB ∨ op = 0xDD ∨ op = 0xED ∨ op = 0xFD := by decide +revert

theorem plainLength_bounds (op : Byte) : 1 ≤ plainLength op ∧ plainLength op ≤ 3 := by decide +revert

theorem prefixedLength_bounds (op : Byte) : 1 ≤ prefixedLength op ∧ prefixedLength op ≤ 4 := by decide +revert

/-- Only another DD, ED or FD overrides a DD or FD byte (50_undocumented R572). -/
theorem prefixedLength_eq_one_iff (op : Byte) : prefixedLength op = 1 ↔ op = 0xDD ∨ op = 0xED ∨ op = 0xFD := by decide +revert

theorem prefixedLength_of_unaffected {op : Byte} (hop : isPrefix op = false) (h : (ddAffected op 0 0).isNone = true) :
    prefixedLength op = 1 + plainLength op := by decide +revert

theorem instrLength_of_not_prefix {b0 : Byte} (h : isPrefix b0 = false) (b1 : Byte) : instrLength b0 b1 = plainLength b0 := by
  simp only [isPrefix, Bool.or_eq_false_iff, decide_eq_false_iff_not] at h
  simp [instrLength, h]

theorem instrLength_bounds (b0 b1 : Byte) : 1 ≤ instrLength b0 b1 ∧ instrLength b0 b1 ≤ 4 := by
  have hplain := plainLength_bounds b0
  have hprefixed := prefixedLength_bounds b1
  unfold instrLength
  split_ifs <;> omega

/-! ### What a second byte means behind DD and FD (30_encoding R179, 50_undocumented R571) -/

/-- The unprefixed map has a hole exactly at CB, DD, ED and FD; checked row by row, in the order of the decoder's split. -/
theorem decodePlain_isNone (op n : Byte) (nn : Word) : (decodePlain op n nn).isNone = isPrefix op := by
  cases op using opcode_cases with | fields x y z
  cases x using code2_cases <;> cases z using code3_cases <;> cases y using code3_cases <;> rfl

theorem isPrefix_of_decodePlain {op n : Byte} {nn : Word} {i : Instr} (h : decodePlain op n nn = some i) : isPrefix op = false := by
  rw [← decodePlain_isNone op n nn, h]; rfl

theorem exists_decodePlain {op : Byte} (h : isPrefix op = false) (n : Byte) (nn : Word) : ∃ i, decodePlain op n nn = some i := by
  rw [← Option.isSome_iff_exists, ← Option.isNone_eq_false_iff, decodePlain_isNone, h]

/-- The passable instructions are those outside the index-affected set, behind DD as behind FD. -/
theorem affected_isNone {op n : Byte} {nn : Word} {i : Instr} (h : decodePlain op n nn = some i) (b2 b3 : Byte) :
    (ddAffected op b2 b3).isNone = i.passable ∧ (fdAffected op b2 b3).isNone = i.passable := by
  cases op using opcode_cases with | fields x y z
  cases x using code2_cases <;> cases z using code3_cases <;> cases y using code3_cases <;> cases h <;> exact ⟨rfl, rfl⟩

theorem ne_CB_of_not_prefix {op : Byte} (h : isPrefix op = false) : op ≠ 0xCB#8 := by decide +revert

/-- Before a passable instruction DD and FD are passed over. -/
theorem decode_passed {b1 b2 b3 : Byte} {i : Instr} (h : decodePlain b1 b2 (mkWord b3 b2) = some i) (hi : i.passable = true) :
    decodeDD b1 b2 b3 = .ddPass i ∧ decodeFD b1 b2 b3 = .fdPass i ∧ prefixedLength b1 = 1 + plainLength b1 := by
  have hp := isPrefix_of_decodePlain h
  have hcb := ne_CB_of_not_prefix hp
  obtain ⟨hdd, hfd⟩ := affected_isNone h b2 b3
  rw [hi, Option.isNone_iff_eq_none] at hdd hfd
  refine ⟨by simp [decodeDD, hcb, hdd, h], by simp [decodeFD, hcb, hfd, h], ?_⟩
  exact prefixedLength_of_unaffected hp ((affected_isNone h 0 0).1.trans hi)

/-- Before any other unprefixed instruction DD and FD make an instruction of the index-affected set of it. -/
theorem decode_affected {b1 b2 b3 : Byte} {i : Instr} (h : decodePlain b1 b2 (mkWord b3 b2) = some i) (hi : i.passable = false) :
    ddAffected b1 b2 b3 = some (decodeDD b1 b2 b3) ∧ fdAffected b1 b2 b3 = some (decodeFD b1 b2 b3) := by
  have hcb := ne_CB_of_not_prefix (isPrefix_of_decodePlain h)
  obtain ⟨hdd, hfd⟩ := affected_isNone h b2 b3
  rw [hi, Option.isNone_eq_false_iff, Option.isSome_iff_exists] at hdd hfd
  obtain ⟨j, hj⟩ := hdd
  obtain ⟨k, hk⟩ := hfd
  exact ⟨by simp [decodeDD, hcb, hj], by simp [decodeFD, hcb, hk]⟩

end Sys2Proof.Machine
end

section
/-! From bytes to an instruction and back: what the decoder reads is well formed, and its encoding is the bytes read (30_encoding R170
to R182). The tables of the decoder are checked row by row, split by the fields of the opcode byte as the decoder splits them. -/

namespace Sys2Proof.Machine

/-- The instruction is well formed and the bytes are its encoding. -/
def ReadFrom (bs : List Byte) (i : Instr) : Prop := encode i = bs ∧ i.wf = true

/-! ### Unprefixed instructions -/

theorem decodePlain_word_readFrom {op : Byte} {nn : Word} {i : Instr} (h : decodePlain op (loByte nn) nn = some i) :
    ReadFrom ([op, loByte nn, hiByte nn].take (plainLength op)) i := by
  cases op using opcode_cases with | fields x y z
  cases x using code2_cases <;> cases z using code3_cases <;> cases y using code3_cases <;> cases h <;> exact ⟨rfl, rfl⟩

theorem decodePlain_readFrom {b0 b1 b2 : Byte} {i : Instr} (h : decodePlain b0 b1 (mkWord b2 b1) = some i) :
    ReadFrom ([b0, b1, b2].take (plainLength b0)) i := by
  have hread := decodePlain_word_readFrom (op := b0) (nn := mkWord b2 b1) (i := i)
  rw [loByte_mkWord, hiByte_mkWord] at hread
  exact hread h

/-! ### The CB page, alone and behind DD or FD -/

theorem rotR_readFrom (y : BitVec 3) (r : Reg8) : ReadFrom [0xCB, opXYZ 0 y r.code] (rotR y r) := by
  cases y using code3_cases <;> exact ⟨rfl, rfl⟩

theorem rotIndHL_readFrom (y : BitVec 3) : ReadFrom [0xCB, opXYZ 0 y 6] (rotIndHL y) := by
  cases y using code3_cases <;> exact ⟨rfl, rfl⟩

theorem decodeCB_readFrom (op : Byte) : ReadFrom [0xCB, op] (decodeCB op) := by
  cases op using opcode_cases with | fields x y z
  cases z using reg8_cases
  case reg r =>
    cases x using code2_cases <;> simp only [decodeCB, opX_opXYZ, opY_opXYZ, opZ_opXYZ, reg8Of_code]
    case h0 => exact rotR_readFrom y r
    all_goals exact ⟨rfl, rfl⟩
  case indirect =>
    cases x using code2_cases <;> simp only [decodeCB, opX_opXYZ, opY_opXYZ, opZ_opXYZ]
    case h0 => exact rotIndHL_readFrom y
    all_goals exact ⟨rfl, rfl⟩

theorem rotIndexed_readFrom (y : BitVec 3) (d : Byte) :
    ReadFrom [0xDD, 0xCB, d, opXYZ 0 y 6] (rotIndIXd y d) ∧ ReadFrom [0xFD, 0xCB, d, opXYZ 0 y 6] (rotIndIYd y d) := by
  cases y using code3_cases <;> exact ⟨⟨rfl, rfl⟩, rfl, rfl⟩

theorem rotIndexedR_readFrom (y : BitVec 3) (d : Byte) (r : Reg8) :
    ReadFrom [0xDD, 0xCB, d, opXYZ 0 y r.code] (rotIndIXdR y d r) ∧
    ReadFrom [0xFD, 0xCB, d, opXYZ 0 y r.code] (rotIndIYdR y d r) := by
  cases y using code3_cases <;> exact ⟨⟨rfl, rfl⟩, rfl, rfl⟩

theorem decodeIndexedCB_readFrom (d op : Byte) :
    ReadFrom [0xDD, 0xCB, d, op] (decodeDDCB d op) ∧ ReadFrom [0xFD, 0xCB, d, op] (decodeFDCB d op) := by
  cases op using opcode_cases with | fields x y z
  cases z using reg8_cases
  case reg r =>
    cases x using code2_cases <;> simp only [decodeDDCB, decodeFDCB, opX_opXYZ, opY_opXYZ, opZ_opXYZ, reg8Of_code]
    case h0 => exact rotIndexedR_readFrom y d r
    all_goals exact ⟨⟨rfl, rfl⟩, rfl, rfl⟩
  case indirect =>
    cases x using code2_cases <;> simp only [decodeDDCB, decodeFDCB, opX_opXYZ, opY_opXYZ, opZ_opXYZ]
    case h0 => exact rotIndexed_readFrom y d
    all_goals exact ⟨⟨rfl, rfl⟩, rfl, rfl⟩

/-! ### The ED page -/

theorem decodeED_word_readFrom (op : Byte) (nn : Word) :
    ReadFrom ([0xED, op, loByte nn, hiByte nn].take (instrLength 0xED op)) (decodeED op nn) := by
  cases op using opcode_cases with | fields x y z
  cases x using code2_cases <;> cases z using code3_cases <;> cases y using code3_cases <;> exact ⟨rfl, rfl⟩

theorem decodeED_readFrom (b1 b2 b3 : Byte) :
    ReadFrom ([0xED, b1, b2, b3].take (instrLength 0xED b1)) (decodeED b1 (mkWord b3 b2)) := by
  have hread := decodeED_word_readFrom b1 (mkWord b3 b2)
  rwa [loByte_mkWord, hiByte_mkWord] at hread

/-! ### The DD and FD pages -/

theorem affected_word_readFrom (op : Byte) (nn : Word) :
    (∀ i, ddAffected op (loByte nn) (hiByte nn) = some i →
      ReadFrom ([0xDD, op, loByte nn, hiByte nn].take (prefixedLength op)) i) ∧
    (∀ i, fdAffected op (loByte nn) (hiByte nn) = some i →
      ReadFrom ([0xFD, op, loByte nn, hiByte nn].take (prefixedLength op)) i) := by
  simp only [ddAffected, fdAffected, dd0, fd0, mkWord_bytes]
  cases op using opcode_cases with | fields x y z
  cases x using code2_cases <;> cases z using code3_cases <;> cases y using code3_cases <;> constructor <;> rintro i ⟨⟩ <;>
    exact ⟨rfl, rfl⟩

theorem affected_readFrom (b1 b2 b3 : Byte) :
    (∀ i, ddAffected b1 b2 b3 = some i → ReadFrom ([0xDD, b1, b2, b3].take (prefixedLength b1)) i) ∧
    (∀ i, fdAffected b1 b2 b3 = some i → ReadFrom ([0xFD, b1, b2, b3].take (prefixedLength b1)) i) := by
  have hread := affected_word_readFrom b1 (mkWord b3 b2)
  rwa [loByte_mkWord, hiByte_mkWord] at hread

theorem pass_readFrom {bs : List Byte} {i : Instr} (h : ReadFrom bs i) (hi : i.passable = true) :
    ReadFrom (0xDD :: bs) (.ddPass i) ∧ ReadFrom (0xFD :: bs) (.fdPass i) :=
  ⟨⟨congrArg (0xDD :: ·) h.1, hi⟩, congrArg (0xFD :: ·) h.1, hi⟩

theorem decodeIndexed_readFrom (b1 b2 b3 : Byte) :
    ReadFrom ([0xDD, b1, b2, b3].take (prefixedLength b1)) (decodeDD b1 b2 b3) ∧
    ReadFrom ([0xFD, b1, b2, b3].take (prefixedLength b1)) (decodeFD b1 b2 b3) := by
  cases hp : isPrefix b1
  case true =>
    rcases (isPrefix_iff b1).mp hp with rfl | rfl | rfl | rfl
    · exact decodeIndexedCB_readFrom b2 b3
    all_goals exact ⟨⟨rfl, rfl⟩, rfl, rfl⟩
  case false =>
    obtain ⟨i, hi⟩ := exists_decodePlain hp b2 (mkWord b3 b2)
    cases hpass : i.passable
    case true =>
      obtain ⟨hdd, hfd, hlen⟩ := decode_passed hi hpass
      rw [hdd, hfd, hlen, Nat.add_comm]
      exact pass_readFrom (decodePlain_readFrom hi) hpass
    case false =>
      obtain ⟨hdd, hfd⟩ := decode_affected hi hpass
      obtain ⟨hreadDD, hreadFD⟩ := affected_readFrom b1 b2 b3
      exact ⟨hreadDD _ hdd, hreadFD _ hfd⟩

/-- Whatever four bytes are fetched, the instruction is well formed and its encoding is as many of them as its length says. -/
theorem decode4_readFrom (b0 b1 b2 b3 : Byte) :
    ReadFrom ([b0, b1, b2, b3].take (instrLength b0 b1)) (decode4 b0 b1 b2 b3) := by
  cases hp : isPrefix b0
  case true =>
    rcases (isPrefix_iff b0).mp hp with rfl | rfl | rfl | rfl
    · exact decodeCB_readFrom b1
    · exact (decodeIndexed_readFrom b1 b2 b3).1
    · exact decodeED_readFrom b1 b2 b3
    · exact (decodeIndexed_readFrom b1 b2 b3).2
  case false =>
    obtain ⟨i, hi⟩ := exists_decodePlain hp b1 (mkWord b2 b1)
    have hi4 : decode4 b0 b1 b2 b3 = i := by simp [decode4, hi]
    have htake : [b0, b1, b2, b3].take (plainLength b0) = [b0, b1, b2].take (plainLength b0) :=
      List.take_append_of_le_length (l₁ := [b0, b1, b2]) (l₂ := [b3]) (plainLength_bounds b0).2
    rw [hi4, instrLength_of_not_prefix hp, htake]
    exact decodePlain_readFrom hi

/-! ### Byte lists -/

/-- What `decode` answers: the list does not end too soon, the instruction is what its first four bytes (0 past its end) are fetched
as, and the rest begins after the instruction's length. -/
theorem decode_eq_ok_iff {bs rest : List Byte} {i : Instr} :
    decode bs = .ok (i, rest) ↔
      bs ≠ [] ∧ (isPrefix (bs.getD 0 0) && bs.tail.isEmpty) = false ∧ instrLength (bs.getD 0 0) (bs.getD 1 0) ≤ bs.length ∧
      decode4 (bs.getD 0 0) (bs.getD 1 0) (bs.getD 2 0) (bs.getD 3 0) = i ∧
      bs.drop (instrLength (bs.getD 0 0) (bs.getD 1 0)) = rest := by
  cases bs with
  | nil => simp [decode]
  | cons b0 t =>
    simp only [decode, List.getD_cons_zero, List.getD_cons_succ, List.tail_cons]
    split
    case isTrue hguard => simp [hguard]
    case isFalse hguard =>
      split
      case isTrue hshort => simp_all
      case isFalse hlong => simp_all

theorem take_four_getD {bs : List Byte} {n : Nat} (hn : n ≤ 4) (hl : n ≤ bs.length) :
    [bs.getD 0 0, bs.getD 1 0, bs.getD 2 0, bs.getD 3 0].take n = bs.take n := by
  match bs, n with
  | _, 0 => rfl
  | b0 :: _, 1 => rfl
  | b0 :: b1 :: _, 2 => rfl
  | b0 :: b1 :: b2 :: _, 3 => rfl
  | b0 :: b1 :: b2 :: b3 :: _, 4 => rfl

/-- Settles O32: the decoder computes each of the twelve words. -/
theorem decodesSpecWords : Obligations.DecodesSpecWords :=
  ⟨rfl, rfl, rfl, rfl, rfl, rfl, rfl, rfl, rfl, rfl, rfl, rfl⟩

/-- A DD or FD byte read as an instruction of its own stands before another DD, ED or FD (50_undocumented R572). -/
theorem overridden_before_prefix {b : Byte} {bs : List Byte} (hb : b = 0xDD ∨ b = 0xFD)
    (hguard : (isPrefix (bs.getD 0 0) && bs.tail.isEmpty) = false)
    (hbs : [b] = bs.take (instrLength (bs.getD 0 0) (bs.getD 1 0))) :
    ∃ b1 t, bs.drop (instrLength (bs.getD 0 0) (bs.getD 1 0)) = b1 :: t ∧ (b1 = 0xDD ∨ b1 = 0xED ∨ b1 = 0xFD) := by
  obtain ⟨n, hn⟩ := Nat.exists_eq_add_one.mpr (instrLength_bounds (bs.getD 0 0) (bs.getD 1 0)).1
  rw [hn] at hbs ⊢
  match bs with
  | b0 :: t =>
    obtain ⟨rfl, ht⟩ := List.cons.inj hbs
    have hp : isPrefix b = true := (isPrefix_iff b).mpr (hb.elim (.inr ∘ .inl) (.inr ∘ .inr ∘ .inr))
    match t with
    | [] => exact absurd hp (by simpa using hguard)
    | b1 :: t =>
      obtain rfl : n = 0 := by simpa using ht.symm
      refine ⟨b1, t, rfl, (prefixedLength_eq_one_iff b1).mp ?_⟩
      rcases hb with rfl | rfl <;> exact hn

theorem followedBy_of_encode_eq {bs : List Byte} {i : Instr} (hguard : (isPrefix (bs.getD 0 0) && bs.tail.isEmpty) = false)
    (henc : encode i = bs.take (instrLength (bs.getD 0 0) (bs.getD 1 0))) :
    i.followedBy (bs.drop (instrLength (bs.getD 0 0) (bs.getD 1 0))) = true := by
  cases i
  case ddOverride | fdOverride =>
    obtain ⟨b1, t, hdrop, hb1⟩ := overridden_before_prefix (by decide) hguard henc
    rcases hb1 with rfl | rfl | rfl <;> rw [hdrop] <;> rfl
  all_goals rfl

/-- Settles O34: the instruction is read from the bytes its length takes, and the rest is what follows them. -/
theorem encodeInvertsDecode : Obligations.EncodeInvertsDecode := by
  intro bs rest i h
  obtain ⟨-, hguard, hlen, rfl, rfl⟩ := decode_eq_ok_iff.mp h
  obtain ⟨henc, hwf⟩ := decode4_readFrom (bs.getD 0 0) (bs.getD 1 0) (bs.getD 2 0) (bs.getD 3 0)
  rw [take_four_getD (instrLength_bounds _ _).2 hlen] at henc
  exact ⟨by rw [henc, List.take_append_drop], hwf, followedBy_of_encode_eq hguard henc⟩

/-! ### Every byte sequence runs (30_encoding R181, 60_exceptions R830) -/

/-- Any four bytes start with an instruction, whatever follows them. -/
theorem decode_four_bytes (b0 b1 b2 b3 : Byte) (rest : List Byte) :
    decode (b0 :: b1 :: b2 :: b3 :: rest) =
      .ok (decode4 b0 b1 b2 b3, (b0 :: b1 :: b2 :: b3 :: rest).drop (instrLength b0 b1)) := by
  refine decode_eq_ok_iff.mpr ⟨List.cons_ne_nil _ _, Bool.and_false _, ?_, rfl, rfl⟩
  exact (instrLength_bounds b0 b1).2.trans (by simp)

theorem passedOver_completes {i : Instr} (h : i.passable = true) (s : State) : Completes (passedOver i s) := by
  cases i
  case nop | exAFAF | djnzE | jrE | jrNZE | jrZE | jrNCE | jrCE | ldDdNn | ldIndBCA | ldIndDEA | ldIndNnA | ldAIndBC | ldAIndDE |
      ldAIndNn | incSs | decSs | incR | decR | ldRN | rlca | rrca | rla | rra | daa | cpl | scf | ccf | ldRR | halt | addAR |
      addAN | adcAR | adcAN | subR | subN | sbcAR | sbcAN | andR | andN | xorR | xorN | orR | orN | cpR | cpN | retCc | popQq |
      ret | exx | jpCcNn | jpNn | outPortNA | inAPortN | exDEHL | di | ei | callCcNn | pushQq | callNn | rstP =>
    exact ⟨_, rfl⟩
  all_goals cases h

theorem passPrefix_completes {i : Instr} (h : i.passable = true) (s : State) : Completes (passPrefix i s) := by
  rw [passPrefix, if_pos h]
  exact passedOver_completes h _

/-- Every meaning but the two of a passed-over DD or FD answers a next state on every path (60_exceptions R830). -/
theorem exec_completes {i : Instr} (h : i.wf = true) (s : State) : Completes (exec i s) := by
  cases i
  case ddPass i => exact passPrefix_completes h s
  case fdPass i => exact passPrefix_completes h s
  all_goals exact ⟨_, rfl⟩

/-- Settles O35: four bytes are enough for every instruction, and a well-formed one completes. -/
theorem everyByteSequenceRuns : Obligations.EveryByteSequenceRuns := by
  refine ⟨fun b0 b1 b2 b3 rest => ?_, fun i s h => exec_completes h s⟩
  obtain ⟨hpos, hfour⟩ := instrLength_bounds b0 b1
  exact ⟨decode4 b0 b1 b2 b3, instrLength b0 b1, hpos, hfour, (decode4_readFrom b0 b1 b2 b3).2, decode_four_bytes b0 b1 b2 b3 rest⟩

end Sys2Proof.Machine
end

section
/-! From an instruction to bytes and back: whatever bytes follow an encoding, the decoder reads the instruction from it (30_encoding
R170 to R182). -/

namespace Sys2Proof.Machine

/-! ### The first four bytes of a list -/

/-- The list has four bytes, the longest an instruction can be, and `P` holds of its first four. -/
def OnFirstFour (P : Byte → Byte → Byte → Byte → Prop) : List Byte → Prop
  | b0 :: b1 :: b2 :: b3 :: _ => P b0 b1 b2 b3
  | _ => False

theorem OnFirstFour.imp {P Q : Byte → Byte → Byte → Byte → Prop} {bs : List Byte}
    (hPQ : ∀ b0 b1 b2 b3, P b0 b1 b2 b3 → Q b0 b1 b2 b3) (h : OnFirstFour P bs) : OnFirstFour Q bs := by
  match bs with
  | [] | [_] | [_, _] | [_, _, _] => exact h.elim
  | b0 :: b1 :: b2 :: b3 :: _ => exact hPQ b0 b1 b2 b3 h

theorem OnFirstFour.cons {P : Byte → Byte → Byte → Byte → Prop} {bs : List Byte} (b : Byte) (h : OnFirstFour P bs) :
    OnFirstFour (fun b0 b1 b2 b3 => b0 = b ∧ ∃ b4, P b1 b2 b3 b4) (b :: bs) := by
  match bs with
  | [] | [_] | [_, _] | [_, _, _] => exact h.elim
  | _ :: _ :: _ :: b4 :: _ => exact ⟨rfl, b4, h⟩

/-- Three bytes after a first one show all that `decode` looks at. -/
theorem OnFirstFour.getD_append {P : Byte → Byte → Byte → Byte → Prop} {bs : List Byte} (rest : List Byte)
    (h : OnFirstFour P (bs ++ [rest.getD 0 0, rest.getD 1 0, rest.getD 2 0])) :
    P ((bs ++ rest).getD 0 0) ((bs ++ rest).getD 1 0) ((bs ++ rest).getD 2 0) ((bs ++ rest).getD 3 0) := by
  match bs with
  | [] => exact h.elim
  | [_] | [_, _] | [_, _, _] | _ :: _ :: _ :: _ :: _ => exact h

/-! ### Instructions read back from their bytes -/

/-- Whatever follows, `i'` is read as an unprefixed instruction from the bytes of `i`. -/
def ReadsPlainAs (i i' : Instr) : Prop :=
  ∀ r0 r1 r2, OnFirstFour
    (fun b0 b1 b2 _ => decodePlain b0 b1 (mkWord b2 b1) = some i' ∧ plainLength b0 = (encode i).length)
    (encode i ++ [r0, r1, r2])

/-- Whatever follows, `i'` is fetched from the bytes of `i`, and no byte after them is needed to tell their number. -/
def ReadsAs (i i' : Instr) : Prop :=
  ∀ r0 r1 r2, OnFirstFour
    (fun b0 b1 b2 b3 => decode4 b0 b1 b2 b3 = i' ∧ instrLength b0 b1 = (encode i).length ∧
      (isPrefix b0 && (encode i).length == 1) = false)
    (encode i ++ [r0, r1, r2])

theorem ReadsPlainAs.readsAs {i : Instr} (h : ReadsPlainAs i i) : ReadsAs i i := fun r0 r1 r2 =>
  (h r0 r1 r2).imp fun b0 b1 b2 b3 ⟨hi, hlen⟩ => by
    have hp := isPrefix_of_decodePlain hi
    exact ⟨by simp [decode4, hi], (instrLength_of_not_prefix hp b1).trans hlen, by simp [hp]⟩

/-- A passable instruction is read from its bytes behind a DD or FD too. -/
theorem ReadsPlainAs.pass {i : Instr} (h : ReadsPlainAs i i) (hi : i.passable = true) :
    ReadsAs (.ddPass i) (.ddPass i) ∧ ReadsAs (.fdPass i) (.fdPass i) := by
  have hpassed : ∀ b1 b2 b3, decodePlain b1 b2 (mkWord b3 b2) = some i → plainLength b1 = (encode i).length →
      decodeDD b1 b2 b3 = .ddPass i ∧ decodeFD b1 b2 b3 = .fdPass i ∧ prefixedLength b1 = (encode i).length + 1 ∧
      ((encode i).length + 1 == 1) = false := fun b1 b2 b3 hd hlen => by
    obtain ⟨hdd, hfd, hpl⟩ := decode_passed hd hi
    have hpos := (plainLength_bounds b1).1
    exact ⟨hdd, hfd, by omega, beq_false_of_ne (by omega)⟩
  refine ⟨fun r0 r1 r2 => ((h r0 r1 r2).cons 0xDD).imp ?_, fun r0 r1 r2 => ((h r0 r1 r2).cons 0xFD).imp ?_⟩
  · rintro _ b1 b2 b3 ⟨rfl, -, hd, hlen⟩
    obtain ⟨hdd, -, hpl, hguard⟩ := hpassed b1 b2 b3 hd hlen
    exact ⟨hdd, hpl, hguard⟩
  · rintro _ b1 b2 b3 ⟨rfl, -, hd, hlen⟩
    obtain ⟨-, hfd, hpl, hguard⟩ := hpassed b1 b2 b3 hd hlen
    exact ⟨hfd, hpl, hguard⟩

theorem ReadsAs.decode {i : Instr} (h : ReadsAs i i) (rest : List Byte) : decode (encode i ++ rest) = .ok (i, rest) := by
  obtain ⟨hi, hlen, hguard⟩ := (h _ _ _).getD_append rest
  have hpos := (instrLength_bounds ((encode i ++ rest).getD 0 0) ((encode i ++ rest).getD 1 0)).1
  rw [hlen] at hpos
  rw [decode_eq_ok_iff, hlen, List.drop_left, List.length_append]
  refine ⟨List.append_ne_nil_of_left_ne_nil (List.ne_nil_of_length_pos hpos) rest, ?_, by omega, hi, rfl⟩
  generalize encode i = bs at hpos hguard ⊢
  match bs with
  | [b0] => simp_all
  | _ :: _ :: _ => simp

/-- The decoder puts the two bytes of an immediate word together again. -/
theorem ReadsPlainAs.of_bytes {c : Word → Instr} {nn : Word} (h : ReadsPlainAs (c nn) (c (mkWord (hiByte nn) (loByte nn)))) :
    ReadsPlainAs (c nn) (c nn) := by
  rwa [mkWord_bytes] at h

theorem ReadsAs.of_bytes {c : Word → Instr} {nn : Word} (h : ReadsAs (c nn) (c (mkWord (hiByte nn) (loByte nn)))) :
    ReadsAs (c nn) (c nn) := by
  rwa [mkWord_bytes] at h

/-! ### Rows that take more than evaluation -/

theorem half_iff (r : RegXY) : r.half = true ↔ r = .xh ∨ r = .xl := by cases r <;> decide

/-- A pair of register codes with an index half in it is a load between the two (50_undocumented R573). -/
theorem decode_halves {dst src : RegXY} (h : (dst.half || src.half) = true) (b2 b3 : Byte) :
    decodeDD (opXYZ 1 dst.code src.code) b2 b3 = .ldPPIX dst src ∧ decodeFD (opXYZ 1 dst.code src.code) b2 b3 = .ldPPIY dst src ∧
    prefixedLength (opXYZ 1 dst.code src.code) = 2 := by
  rw [Bool.or_eq_true, half_iff, half_iff] at h
  rcases h with (rfl | rfl) | (rfl | rfl)
  case inl.inl | inl.inr => cases src <;> exact ⟨rfl, rfl, rfl⟩
  case inr.inl | inr.inr => cases dst <;> exact ⟨rfl, rfl, rfl⟩

theorem decodeED_unassigned {op : Byte} (h : unassignedEd op = true) (nn : Word) : decodeED op nn = .nopEd op := by
  have hx : opX op ≠ 1#2 := by decide +revert
  unfold decodeED
  split
  case h_1 hone => exact absurd hone hx
  case h_2 =>
    unfold ed2
    split
    case h_17 => rfl
    all_goals exact absurd h (by decide)
  case h_3 => rfl

theorem instrLength_unassignedEd {op : Byte} (h : unassignedEd op = true) : instrLength 0xED op = 2 := by decide +revert

theorem decode4_overridden {b1 : Byte} (h : b1 = 0xDD ∨ b1 = 0xED ∨ b1 = 0xFD) (b2 b3 : Byte) :
    decode4 0xDD b1 b2 b3 = .ddOverride ∧ decode4 0xFD b1 b2 b3 = .fdOverride := by
  rcases h with rfl | rfl | rfl <;> exact ⟨rfl, rfl⟩

theorem decode_overridden {rest : List Byte} (h : Instr.ddOverride.followedBy rest = true) :
    decode (0xDD :: rest) = .ok (.ddOverride, rest) ∧ decode (0xFD :: rest) = .ok (.fdOverride, rest) := by
  match rest with
  | b1 :: t =>
    have hb1 : b1 = 0xDD ∨ b1 = 0xED ∨ b1 = 0xFD := by simpa [Instr.followedBy, or_assoc] using h
    obtain ⟨hdd, hfd⟩ := decode4_overridden hb1 (t.getD 0 0) (t.getD 1 0)
    have hlen : prefixedLength b1 = 1 := (prefixedLength_eq_one_iff b1).mpr hb1
    have hle : prefixedLength b1 ≤ t.length + 2 := by omega
    have hdrop : ∀ b, (b :: b1 :: t).drop (prefixedLength b1) = b1 :: t := fun b => by rw [hlen]; rfl
    rw [decode_eq_ok_iff, decode_eq_ok_iff]
    exact ⟨⟨List.cons_ne_nil _ _, rfl, hle, hdd, hdrop _⟩, List.cons_ne_nil _ _, rfl, hle, hfd, hdrop _⟩

/-! ### Every instruction -/

/-- What is proved of every instruction; behind a passed-over DD or FD the second half is needed. -/
structure RoundTrip (i : Instr) : Prop where
  decode : ∀ rest, i.wf = true → i.followedBy rest = true → decode (encode i ++ rest) = .ok (i, rest)
  plain : i.passable = true → ReadsPlainAs i i

theorem RoundTrip.of_plain {i : Instr} (h : ReadsPlainAs i i) : RoundTrip i := ⟨fun rest _ _ => h.readsAs.decode rest, fun _ => h⟩

theorem RoundTrip.of_prefixed {i : Instr} (hp : i.passable = false) (h : i.wf = true → ReadsAs i i) : RoundTrip i :=
  ⟨fun rest hwf _ => (h hwf).decode rest, fun h => absurd (hp.symm.trans h) Bool.false_ne_true⟩

theorem roundTrip (i : Instr) : RoundTrip i := by
  induction i
  case nop | exAFAF | djnzE | jrE | jrNZE | jrZE | jrNCE | jrCE | ldIndBCA | ldIndDEA | ldAIndBC | ldAIndDE | incIndHL | decIndHL |
      ldIndHLN | rlca | rrca | rla | rra | daa | cpl | scf | ccf | halt | addAN | addAIndHL | adcAN | adcAIndHL | subN | subIndHL |
      sbcAN | sbcAIndHL | andN | andIndHL | xorN | xorIndHL | orN | orIndHL | cpN | cpIndHL | ret | exx | jpIndHL | ldSPHL |
      outPortNA | inAPortN | exIndSPHL | exDEHL | di | ei =>
    exact .of_plain fun _ _ _ => ⟨rfl, rfl⟩
  case addHLSs r | incSs r | decSs r | incR r | decR r | ldRN r _ | ldRIndHL r | ldIndHLR r | addAR r | adcAR r | subR r |
      sbcAR r | andR r | xorR r | orR r | cpR r | retCc r | popQq r | pushQq r =>
    cases r <;> exact .of_plain fun _ _ _ => ⟨rfl, rfl⟩
  case ldRR dst src => cases dst <;> cases src <;> exact .of_plain fun _ _ _ => ⟨rfl, rfl⟩
  case rstP p => cases p using code3_cases <;> exact .of_plain fun _ _ _ => ⟨rfl, rfl⟩
  case ldIndNnHL | ldIndNnA | ldHLIndNn | ldAIndNn | jpNn | callNn =>
    exact .of_plain (.of_bytes fun _ _ _ => ⟨rfl, rfl⟩)
  case ldDdNn r _ | jpCcNn r _ | callCcNn r _ =>
    refine .of_plain (.of_bytes fun _ _ _ => ?_)
    cases r <;> exact ⟨rfl, rfl⟩
  case bitBR | bitBIndHL | resBR | resBIndHL | setBR | setBIndHL =>
    refine .of_prefixed rfl fun _ _ _ _ => ⟨?_, rfl, rfl⟩
    show decodeCB _ = _
    simp [decodeCB]
  case bitBIndIXd | bitBIndIXdMirror | resBIndIXd | resBIndIXdR | setBIndIXd | setBIndIXdR =>
    refine .of_prefixed rfl fun _ _ _ _ => ⟨?_, rfl, rfl⟩
    show decodeDDCB _ _ = _
    simp [decodeDDCB]
  case bitBIndIYd | bitBIndIYdMirror | resBIndIYd | resBIndIYdR | setBIndIYd | setBIndIYdR =>
    refine .of_prefixed rfl fun _ _ _ _ => ⟨?_, rfl, rfl⟩
    show decodeFDCB _ _ = _
    simp [decodeFDCB]
  case rlcR r | rrcR r | rlR r | rrR r | slaR r | sraR r | srlR r | sllR r | inRPortC r | outPortCR r | sbcHLSs r | adcHLSs r |
      addIXPp r | ldRIndIXd r _ | ldIndIXdR _ r | rlcIndIXdR _ r | rrcIndIXdR _ r | rlIndIXdR _ r | rrIndIXdR _ r |
      slaIndIXdR _ r | sraIndIXdR _ r | srlIndIXdR _ r | sllIndIXdR _ r | addIYRr r | ldRIndIYd r _ | ldIndIYdR _ r |
      rlcIndIYdR _ r | rrcIndIYdR _ r | rlIndIYdR _ r | rrIndIYdR _ r | slaIndIYdR _ r | sraIndIYdR _ r | srlIndIYdR _ r |
      sllIndIYdR _ r =>
    cases r <;> exact .of_prefixed rfl fun _ _ _ _ => ⟨rfl, rfl, rfl⟩
  case ldIXNn | ldIndNnIX | ldIXIndNn | ldIYNn | ldIndNnIY | ldIYIndNn =>
    exact .of_prefixed rfl fun _ => .of_bytes fun _ _ _ => ⟨rfl, rfl, rfl⟩
  case ldDdIndNn r _ =>
    refine .of_prefixed rfl fun _ => .of_bytes fun _ _ _ => ?_
    cases r <;> exact ⟨rfl, rfl, rfl⟩
  case ldIndNnDd r =>
    refine .of_prefixed rfl fun _ => .of_bytes (c := (.ldIndNnDd · r)) fun _ _ _ => ?_
    cases r <;> exact ⟨rfl, rfl, rfl⟩
  case ldPPIX =>
    refine .of_prefixed rfl fun h _ r1 r2 => ?_
    obtain ⟨hdd, -, hlen⟩ := decode_halves h _ r1
    exact ⟨hdd, hlen, rfl⟩
  case ldPPIY =>
    refine .of_prefixed rfl fun h _ r1 r2 => ?_
    obtain ⟨-, hfd, hlen⟩ := decode_halves h _ r1
    exact ⟨hfd, hlen, rfl⟩
  case negMirror k | retnMirror k | imMirror k =>
    refine .of_prefixed rfl fun h => ?_
    cases k using code3_cases <;> cases h <;> exact fun _ _ _ => ⟨rfl, rfl, rfl⟩
  case nopEd77 k => cases k using code1_cases <;> exact .of_prefixed rfl fun _ _ _ _ => ⟨rfl, rfl, rfl⟩
  case nopEd => exact .of_prefixed rfl fun h _ _ _ => ⟨decodeED_unassigned h _, instrLength_unassignedEd h, rfl⟩
  case ddOverride => exact ⟨fun _ _ h => (decode_overridden h).1, nofun⟩
  case fdOverride => exact ⟨fun _ _ h => (decode_overridden h).2, nofun⟩
  case ddPass i ih => exact .of_prefixed rfl fun h => ((ih.plain h).pass h).1
  case fdPass i ih => exact .of_prefixed rfl fun h => ((ih.plain h).pass h).2
  all_goals exact .of_prefixed rfl fun _ _ _ _ => ⟨rfl, rfl, rfl⟩

/-- Settles O33: every instruction makes the round trip. -/
theorem decodeInvertsEncode : Obligations.DecodeInvertsEncode := fun i rest hwf hrest => (roundTrip i).decode rest hwf hrest

end Sys2Proof.Machine
end

section
/-! What an instruction leaves, in the words of the claims: the registers, memory and the rest of the state after a fetch, a
register write and a store; and the flags of a result (00_scope R13). -/

namespace Sys2Proof.Claim

open Sys2Proof.Machine

/-! ### The bytes of an instruction -/

/-- The encoding of an instruction, with nothing after it, is decoded as that instruction. -/
theorem decode_of_encode {i : Instr} {bs : List Byte} (henc : encode i = bs) (hwf : i.wf = true) (hend : i.followedBy [] = true) :
    decode bs = .ok (i, []) := by
  rw [← henc, ← List.append_nil (encode i)]
  exact decodeInvertsEncode i [] hwf hend

/-! ### Registers, memory and the rest, operation by operation -/

@[simp] theorem cpu_fetched (s : State) (len : Word) (m1 : BitVec 7) (n : Nat) : cpu (s.fetched len m1 n) = past s len := rfl

@[simp] theorem cpu_setReg (s : State) (r : Reg8) (v : Byte) : cpu (s.setReg r v) = (cpu s).put r v := by cases r <;> rfl

@[simp] theorem cpu_memWrite (s : State) (addr : Word) (v : Byte) : cpu (s.memWrite addr v) = cpu s := by
  rw [s.memWrite_eq addr v]; rfl

theorem same_setReg (s : State) (r : Reg8) (v : Byte) : same s (s.setReg r v) := ⟨s.setReg_memRead r v, s.setReg_ram r v⟩

theorem stores_memWrite (s : State) (addr : Word) (v : Byte) : stores addr v s (s.memWrite addr v) :=
  ⟨fun x => s.memRead_memWrite addr x v, s.cellGet_memWrite_ram addr v⟩

theorem Elsewhere.trans {u s t : State} (hs : Elsewhere u s) (ht : Elsewhere s t) : Elsewhere u t := by
  rw [Elsewhere] at hs ht ⊢
  rw [ht, hs]

theorem elsewhere_fetched (s : State) (len : Word) (m1 : BitVec 7) (n : Nat) : Elsewhere s (s.fetched len m1 n) := rfl

theorem elsewhere_setReg (s : State) (r : Reg8) (v : Byte) : Elsewhere s (s.setReg r v) := by cases r <;> rfl

theorem elsewhere_memWrite (s : State) (addr : Word) (v : Byte) : Elsewhere s (s.memWrite addr v) := by
  rw [Elsewhere, s.memWrite_eq addr v]

/-! ### Instructions that are one operation after the fetch -/

section

variable {bs : List Byte} {i : Instr} {s : State} {len : Word} {m1 : BitVec 7} {n : Nat} {v : Byte}

/-- An instruction that writes one register after its fetch. -/
theorem runs_of_setReg {r : Reg8} (hd : decode bs = .ok (i, [])) (hx : exec i s = .next ((s.fetched len m1 n).setReg r v)) :
    Runs bs i s m1 n ((past s len).put r v) same :=
  ⟨hd, _, hx, cpu_setReg _ r v, State.setReg_rLo _ r v, State.setReg_t _ r v, same_setReg (s.fetched len m1 n) r v,
    (elsewhere_fetched s len m1 n).trans (elsewhere_setReg _ r v)⟩

/-- An instruction that stores one byte after its fetch. -/
theorem runs_of_memWrite {addr : Word} (hd : decode bs = .ok (i, []))
    (hx : exec i s = .next ((s.fetched len m1 n).memWrite addr v)) : Runs bs i s m1 n (past s len) (stores addr v) :=
  ⟨hd, _, hx, cpu_memWrite _ addr v, State.memWrite_rLo _ addr v, State.memWrite_t _ addr v,
    stores_memWrite (s.fetched len m1 n) addr v, (elsewhere_fetched s len m1 n).trans (elsewhere_memWrite _ addr v)⟩

end

/-! ### Flags -/

theorem flagByte_eq_bits (sf zf yf hf xf pf nf cf : Bool) :
    flagByte sf zf yf hf xf pf nf cf = bits sf zf yf hf xf pf nf cf := by
  revert sf zf yf hf xf pf nf cf; decide

theorem getLsbD_seven (v : Byte) : v.getLsbD 7 = decide (128 ≤ v.toNat) := BitVec.msb_eq_decide v

/-- SF, ZF, YF and XF of a result are its sign, whether it is 0, and its bits 5 and 3. -/
theorem flagByte_of_result (res : Byte) (hf pf nf cf : Bool) :
    flagByte (res.getLsbD 7) (res == 0) (res.getLsbD 5) hf (res.getLsbD 3) pf nf cf = flagsOf res hf pf nf cf := by
  rw [flagByte_eq_bits, getLsbD_seven]; rfl

end Sys2Proof.Claim
end

section
/-! The 8-bit load group (40_load8 R220 to R241): each load is its fetch and then one register write or one store. -/

namespace Sys2Proof.Machine

open Claim

/-- Settles O1: every load into a register is its fetch and a register write. -/
theorem registerLoads : Obligations.RegisterLoads := by
  intro s r q n d nn
  refine ⟨?reg, ?immediate, ?indHL, ?indIX, ?indIY, ?indBC, ?indDE, ?indNn⟩
  case indBC | indDE | indNn => exact runs_of_setReg (r := .a) (decode_of_encode rfl rfl rfl) rfl
  all_goals exact runs_of_setReg (decode_of_encode rfl rfl rfl) rfl

/-- Settles O2: every 8-bit store is its fetch and one write to memory. -/
theorem byteStores : Obligations.ByteStores := by
  intro s r n d nn
  refine ⟨?hlR, ?ixR, ?iyR, ?hlN, ?ixN, ?iyN, ?bcA, ?deA, ?nnA⟩
  all_goals exact runs_of_memWrite (decode_of_encode rfl rfl rfl) rfl

/-! ### I and R -/

/-- The flags of a load from I or R are those of the value, with IFF2 as PF and CF kept (40_load8 R238). -/
theorem loadIRFlags_eq (v : Byte) (iff2 : Bool) (f : Byte) :
    loadIRFlags v iff2 f = flagsOf v false iff2 false (f.getLsbD 0) := flagByte_of_result v false iff2 false (flagC f)

/-- A byte split into its top bit and the other seven is that byte again (10_state R46). -/
theorem refresh_append (v : Byte) : v.extractLsb' 7 1 ++ v.extractLsb' 0 7 = v := by decide +revert

/-- What a load from I or R leaves: the value, read after the fetch, in A and its flags in F (40_load8 R238, R239). -/
theorem runs_of_loadIR {bs : List Byte} {i : Instr} {s : State} {v : Byte} (hd : decode bs = .ok (i, []))
    (hx : exec i s = .next { s.fetched 2 2 9 with a := v, f := loadIRFlags v s.iff2 s.f }) :
    Runs bs i s 2 9 { past s 2 with a := v, f := flagsOf v false s.iff2 false (s.f.getLsbD 0) } same := by
  rw [loadIRFlags_eq] at hx
  exact ⟨hd, _, hx, rfl, rfl, rfl, ⟨fun _ => rfl, rfl⟩, rfl⟩

/-- Settles O3: R is read from the state after the fetch, and written over what the fetch left in it. -/
theorem interruptRefreshLoads : Obligations.InterruptRefreshLoads := by
  intro s
  refine ⟨?ai, ?ar, ?ia, ?raBytes, ?ra⟩
  case ai | ar => exact runs_of_loadIR (decode_of_encode rfl rfl rfl) rfl
  case ia => exact ⟨decode_of_encode rfl rfl rfl, _, rfl, rfl, rfl, rfl, ⟨fun _ => rfl, rfl⟩, rfl⟩
  case raBytes => exact decode_of_encode rfl rfl rfl
  case ra => exact ⟨_, rfl, rfl, rfl, refresh_append s.a, ⟨fun _ => rfl, rfl⟩, rfl⟩

end Sys2Proof.Machine
end

section
/-! What 16-bit operations leave, in the words of the claims: an update of the registers alone, a word stored and a word pushed
(00_scope R14, 41_load16_stack R260). -/

namespace Sys2Proof.Claim

open Sys2Proof.Machine

/-! ### Registers alone -/

/-- The state with the registers `c`, everything else as before. -/
def withCpu (s : State) (c : Cpu) : State :=
  { s with
    a := c.a
    f := c.f
    b := c.b
    c := c.c
    d := c.d
    e := c.e
    h := c.h
    l := c.l
    ix := c.ix
    iy := c.iy
    sp := c.sp
    pc := c.pc }

theorem setPairSP_eq_withCpu (s : State) (p : PairSP) (v : Word) : s.setPairSP p v = withCpu s ((cpu s).putSP p v) := by
  cases p <;> rfl

theorem setPairAF_eq_withCpu (s : State) (p : PairAF) (v : Word) : s.setPairAF p v = withCpu s ((cpu s).putQq p v) := by
  cases p <;> rfl

/-- An instruction that, after its fetch, changes registers only. -/
theorem runs_of_withCpu {bs : List Byte} {i : Instr} {s : State} {len : Word} {m1 : BitVec 7} {n : Nat} {c : Cpu}
    (hd : decode bs = .ok (i, [])) (hx : exec i s = .next (withCpu (s.fetched len m1 n) c)) : Runs bs i s m1 n c same :=
  ⟨hd, _, hx, rfl, rfl, rfl, ⟨fun _ => rfl, rfl⟩, rfl⟩

/-! ### A word in memory -/

/-- A word is stored by a store of its high byte and then one of its low byte: `storesWord` asks for the low byte first, and so does a
read after the two stores, the low one being the later. -/
theorem storesWord_high_low (s : State) (addr v : Word) :
    storesWord addr v s ((s.memWrite (addr + 1) (hiByte v)).memWrite addr (loByte v)) := by
  constructor <;> intro x
  · simp only [State.memRead_memWrite, State.memWrite_place]
  · simp only [State.cellGet_memWrite_ram, State.memWrite_place]

/-- The two bytes of a word lead to different cells of RAM, so that the order of the two stores is of no account. -/
theorem storesWord_memWrite16 (s : State) (addr v : Word) : storesWord addr v s (s.memWrite16 addr v) := by
  constructor <;> intro x
  · simp only [State.memWrite16, State.memRead_memWrite, State.memWrite_place]
    apply ite_ite_comm
    rintro ⟨hhigh, hram⟩ ⟨hlow, -⟩
    cases hp : s.place (addr + 1) with
    | rom k => rw [hp] at hram; cases hram
    | ram k => exact State.place_add_one_ne (hlow.symm.trans (hhigh.trans hp)) hp
  · simp only [State.memWrite16, State.cellGet_memWrite_ram, State.memWrite_place]
    apply ite_ite_comm
    exact fun hhigh hlow => State.place_add_one_ne hlow hhigh

@[simp] theorem cpu_memWrite16 (s : State) (addr v : Word) : cpu (s.memWrite16 addr v) = cpu s := by
  rw [State.memWrite16, cpu_memWrite, cpu_memWrite]

theorem elsewhere_memWrite16 (s : State) (addr v : Word) : Elsewhere s (s.memWrite16 addr v) :=
  (elsewhere_memWrite s addr _).trans (elsewhere_memWrite _ (addr + 1) _)

@[simp] theorem cpu_push16 (s : State) (v : Word) : cpu (s.push16 v) = { cpu s with sp := s.sp - 2 } := by
  rw [s.push16_eq v, cpu_memWrite, cpu_memWrite]; rfl

/-- A push stores a word below SP (41_load16_stack R260). -/
theorem storesWord_push16 (s : State) (v : Word) : storesWord (s.sp - 2) v s (s.push16 v) := by
  rw [s.push16_eq v]
  exact storesWord_high_low { s with sp := s.sp - 2 } (s.sp - 2) v

theorem elsewhere_push16 (s : State) (v : Word) : Elsewhere s (s.push16 v) := by
  rw [s.push16_eq v]
  exact Elsewhere.trans (s := { s with sp := s.sp - 2 }) rfl ((elsewhere_memWrite _ _ _).trans (elsewhere_memWrite _ _ _))

/-! ### Instructions that are one store of a word after the fetch -/

section

variable {bs : List Byte} {i : Instr} {s : State} {len : Word} {m1 : BitVec 7} {n : Nat} {v : Word}

/-- An instruction that stores one word after its fetch. -/
theorem runs_of_memWrite16 {addr : Word} (hd : decode bs = .ok (i, []))
    (hx : exec i s = .next ((s.fetched len m1 n).memWrite16 addr v)) : Runs bs i s m1 n (past s len) (storesWord addr v) :=
  ⟨hd, _, hx, cpu_memWrite16 _ addr v, State.memWrite16_rLo _ addr v, State.memWrite16_t _ addr v,
    storesWord_memWrite16 (s.fetched len m1 n) addr v, (elsewhere_fetched s len m1 n).trans (elsewhere_memWrite16 _ addr v)⟩

/-- An instruction that pushes one word after its fetch. -/
theorem runs_of_push16 (hd : decode bs = .ok (i, [])) (hx : exec i s = .next ((s.fetched len m1 n).push16 v)) :
    Runs bs i s m1 n { past s len with sp := s.sp - 2 } (storesWord (s.sp - 2) v) :=
  ⟨hd, _, hx, cpu_push16 _ v, State.push16_rLo _ v, State.push16_t _ v, storesWord_push16 (s.fetched len m1 n) v,
    (elsewhere_fetched s len m1 n).trans (elsewhere_push16 _ v)⟩

end

end Sys2Proof.Claim
end

section
/-! The 16-bit load group and the stack (41_load16_stack R260 to R280): each instruction is its fetch and then registers given a word, a
word stored or a word pushed. -/

namespace Sys2Proof.Machine

open Claim

/-- Settles O4: every 16-bit load is its fetch and an update of registers, with the word, where it comes from memory, read after the
fetch. -/
theorem wordLoads : Obligations.WordLoads := by
  intro s dd nn
  refine ⟨?ddNn, ?ixNn, ?iyNn, ?hlInd, ?ddInd, ?ixInd, ?iyInd, ?spHL, ?spIX, ?spIY⟩
  case ddNn | ddInd =>
    exact runs_of_withCpu (decode_of_encode rfl rfl rfl) (congrArg _ (setPairSP_eq_withCpu (s.fetched _ _ _) dd _))
  all_goals exact runs_of_withCpu (decode_of_encode rfl rfl rfl) rfl

/-- Settles O5: every 16-bit store is its fetch and one word written to memory, every PUSH its fetch and one push. -/
theorem wordStoresAndPush : Obligations.WordStoresAndPush := by
  intro s dd qq nn
  refine ⟨?nnHL, ?nnDd, ?nnIX, ?nnIY, ?pushQq, ?pushIX, ?pushIY⟩
  case pushQq | pushIX | pushIY => exact runs_of_push16 (decode_of_encode rfl rfl rfl) rfl
  all_goals exact runs_of_memWrite16 (decode_of_encode rfl rfl rfl) rfl

/-- Settles O6: every POP is its fetch and an update of registers, with the word read at SP and SP moved up by 2. -/
theorem popWords : Obligations.PopWords := by
  intro s qq
  refine ⟨?qq, ?ix, ?iy⟩
  case qq =>
    exact runs_of_withCpu (len := 1) (decode_of_encode rfl rfl rfl)
      (congrArg _ (setPairAF_eq_withCpu { s.fetched _ _ _ with sp := s.sp + 2 } qq _))
  case ix | iy => exact runs_of_withCpu (decode_of_encode rfl rfl rfl) rfl

end Sys2Proof.Machine
end

section
/-! What the exchanges with the stack and one turn of a block instruction leave, in the words of the claims: an outcome with registers
changed on top of it, and an outcome with a repeat on top of it (42_exchange_block R300, R304 to R314). -/

namespace Sys2Proof.Claim

open Sys2Proof.Machine

/-! ### Outcomes, operation by operation -/

section

variable {s t u : State} {m1 : BitVec 7} {n : Nat} {c : Cpu} {mem : State → State → Prop}

/-- Registers changed on top of an outcome. -/
theorem Yields.withCpu (g : Cpu → Cpu) (h : Yields (.next t) s u m1 n c mem) (hmem : mem s t → mem s (withCpu t (g (cpu t)))) :
    Yields (.next (withCpu t (g (cpu t)))) s u m1 n (g c) mem := by
  obtain ⟨_, ⟨⟩, hcpu, hrefresh, htime, hstored, hrest⟩ := h
  exact ⟨_, rfl, congrArg g hcpu, hrefresh, htime, hmem hstored, hrest.trans rfl⟩

/-- A repeat on top of an outcome: PC goes back by 2 and 5 T more pass (42_exchange_block R300). -/
theorem Yields.repeatBlock {again : Bool} (h : Yields (.next t) s u m1 n c mem) (hmem : mem s t → mem s (t.repeatBlock again)) :
    Yields (.next (t.repeatBlock again)) s u m1 (if again then n + 5 else n)
      { c with pc := if again then c.pc - 2 else c.pc } mem := by
  obtain ⟨_, ⟨⟩, hcpu, hrefresh, htime, hstored, hrest⟩ := h
  subst hcpu
  cases again with
  | false => exact ⟨_, rfl, rfl, hrefresh, htime, hmem hstored, hrest⟩
  | true => exact ⟨_, rfl, rfl, hrefresh, congrArg (· + 5) htime, hmem hstored, hrest.trans rfl⟩

end

theorem same_repeatBlock {s t : State} (again : Bool) (h : same s t) : same s (t.repeatBlock again) := by
  cases again <;> exact h

theorem stores_repeatBlock {addr : Word} {v : Byte} {s t : State} (again : Bool) (h : stores addr v s t) :
    stores addr v s (t.repeatBlock again) := by
  cases again <;> exact h

section

variable (s : State) (len : Word) (m1 : BitVec 7) (n : Nat)

theorem yields_fetched : Yields (.next (s.fetched len m1 n)) s s m1 n (past s len) same :=
  ⟨_, rfl, rfl, rfl, rfl, ⟨fun _ => rfl, rfl⟩, rfl⟩

theorem yields_memWrite (addr : Word) (v : Byte) :
    Yields (.next ((s.fetched len m1 n).memWrite addr v)) s s m1 n (past s len) (stores addr v) :=
  ⟨_, rfl, cpu_memWrite _ addr v, State.memWrite_rLo _ addr v, State.memWrite_t _ addr v,
    stores_memWrite (s.fetched len m1 n) addr v, (elsewhere_fetched s len m1 n).trans (elsewhere_memWrite _ addr v)⟩

theorem yields_putTop (v : Word) :
    Yields (.next ((s.fetched len m1 n).putTop v)) s s m1 n (past s len) (storesWord s.sp v) := by
  refine ⟨_, rfl, ?cpu, ?refresh, ?time, storesWord_high_low (s.fetched len m1 n) s.sp v, ?rest⟩
  case cpu => exact (cpu_memWrite _ _ _).trans (cpu_memWrite _ _ _)
  case refresh => exact (State.memWrite_rLo _ _ _).trans (State.memWrite_rLo _ _ _)
  case time => exact (State.memWrite_t _ _ _).trans (State.memWrite_t _ _ _)
  case rest => exact (elsewhere_fetched s len m1 n).trans ((elsewhere_memWrite _ _ _).trans (elsewhere_memWrite _ _ _))

end

/-- An instruction that, after its fetch, stores one word at SP and changes registers. -/
theorem runs_of_putTop (g : Cpu → Cpu) {bs : List Byte} {i : Instr} {s t : State} {len : Word} {m1 : BitVec 7} {n : Nat} {v : Word}
    (hd : decode bs = .ok (i, [])) (ht : t = (s.fetched len m1 n).putTop v) (hx : exec i s = .next (withCpu t (g (cpu t)))) :
    Runs bs i s m1 n (g (past s len)) (storesWord s.sp v) := by
  subst ht
  refine ⟨hd, ?_⟩
  rw [hx]
  exact (yields_putTop s len m1 n v).withCpu g id

/-! ### Flags of the block instructions -/

theorem bne_zero_eq_decide (w : Word) : (w != 0) = decide (w ≠ 0) := by
  rw [decide_not]; rfl

/-- SF, ZF and CF are kept, YF and XF come from `A + v` (42_exchange_block R307). -/
theorem moveFlags_eq (a v : Byte) (bc : Word) (f : Byte) :
    let n := BitVec.ofNat 8 (a.toNat + v.toNat)
    moveFlags a v bc f =
      bits (f.getLsbD 7) (f.getLsbD 6) (n.getLsbD 1) false (n.getLsbD 3) (decide (bc ≠ 0)) false (f.getLsbD 0) := by
  intro n
  have hsum : a + v = n := by simp [n, BitVec.ofNat_add]
  rw [moveFlags, hsum, flagByte_eq_bits, bne_zero_eq_decide]
  rfl

/-- `minus`, a difference of numbers, is the difference of words. -/
theorem minus_eq_sub (a v : Byte) (k : Nat) : minus a v k = a - v - BitVec.ofNat 8 k := by
  simp [minus, Int.sub_eq_add_neg, BitVec.ofInt_add, BitVec.ofInt_neg, BitVec.ofInt_natCast, BitVec.sub_eq_add_neg]

theorem minus_zero (a v : Byte) : minus a v 0 = a - v := by rw [minus_eq_sub, BitVec.sub_zero]

theorem minus_eq_zero_iff {a v : Byte} : minus a v 0 = 0 ↔ a = v := by rw [minus_zero, sub_eq_zero]

theorem minus_borrow (r : Byte) (h : Bool) : minus r 0 h.toNat = r - if h then 1 else 0 := by
  cases h <;> simp [minus_eq_sub]

theorem toNat_and_low (v : Byte) : (v &&& 0x0F).toNat = v.toNat % 16 := by
  rw [BitVec.toNat_and]
  exact Nat.and_two_pow_sub_one_eq_mod v.toNat 4

/-- SF, ZF and HF are those of the difference, YF and XF those of the difference less HF (42_exchange_block R311). -/
theorem compareFlags_eq (a v : Byte) (bc : Word) (f : Byte) :
    let r := minus a v 0
    let hf := decide (a.toNat % 16 < v.toNat % 16)
    let n := minus r 0 hf.toNat
    compareFlags a v bc f =
      bits (decide (128 ≤ r.toNat)) (decide (r = 0)) (n.getLsbD 1) hf (n.getLsbD 3) (decide (bc ≠ 0)) true (f.getLsbD 0) := by
  intro r hf n
  rw [compareFlags, flagByte_eq_bits, getLsbD_seven, bne_zero_eq_decide, toNat_and_low, toNat_and_low, ← minus_borrow,
    ← minus_zero a v]
  rfl

theorem flagZ_flagByte (sf zf yf hf xf pf nf cf : Bool) : flagZ (flagByte sf zf yf hf xf pf nf cf) = zf := by
  revert sf zf yf hf xf pf nf cf; decide

theorem flagZ_compareFlags (a v : Byte) (bc : Word) (f : Byte) : flagZ (compareFlags a v bc f) = decide (minus a v 0 = 0) := by
  rw [compareFlags, flagZ_flagByte, minus_zero]
  rfl

/-! ### One turn of a block instruction -/

/-- A turn of a move is a store and then registers. -/
theorem blockMove_eq_withCpu (s : State) (by1 : Word) :
    s.blockMove by1 = withCpu (s.memWrite s.de (s.memRead s.hl))
      { (((cpu s).putHL (s.hl + by1)).putDE (s.de + by1)).putBC (s.bc - 1) with
        f := moveFlags s.a (s.memRead s.hl) (s.bc - 1) s.f } := by
  rw [State.blockMove, s.memWrite_eq, State.setBC_bc]
  rfl

/-- A turn of a compare is registers alone. -/
theorem blockCompare_eq_withCpu (s : State) (by1 : Word) :
    s.blockCompare by1 = withCpu s
      { ((cpu s).putHL (s.hl + by1)).putBC (s.bc - 1) with f := compareFlags s.a (s.memRead s.hl) (s.bc - 1) s.f } := by
  rw [State.blockCompare, State.setBC_bc]
  rfl

/-- A turn of a move without its repeat (42_exchange_block R307, R309). -/
theorem yields_blockMove (s : State) (by1 : Word) :
    Yields (.next ((s.fetched 2 2 16).blockMove by1)) s s 2 16 (moved s by1 fun _ => false) (stores s.de (s.memRead s.hl)) := by
  rw [blockMove_eq_withCpu, moveFlags_eq]
  exact (yields_memWrite s 2 2 16 s.de _).withCpu (fun _ => _) id

/-- A turn of a compare without its repeat (42_exchange_block R311, R313). -/
theorem yields_blockCompare (s : State) (by1 : Word) :
    Yields (.next ((s.fetched 2 2 16).blockCompare by1)) s s 2 16 (compared s by1 fun _ _ => false) same := by
  rw [blockCompare_eq_withCpu, compareFlags_eq]
  exact (yields_fetched s 2 2 16).withCpu (fun _ => _) id

/-- PC past the instruction and back by 2 is the instruction's own address. -/
theorem moved_again (s : State) (by1 : Word) (more : Word → Bool) :
    { moved s by1 fun _ => false with pc := if more (s.bc - 1) then s.pc + 2 - 2 else s.pc + 2 } = moved s by1 more := by
  rw [BitVec.add_sub_cancel]
  rfl

theorem compared_again (s : State) (by1 : Word) (more : Word → Byte → Bool) :
    { compared s by1 fun _ _ => false with
      pc := if more (s.bc - 1) (minus s.a (s.memRead s.hl) 0) then s.pc + 2 - 2 else s.pc + 2 } = compared s by1 more := by
  rw [BitVec.add_sub_cancel]
  rfl

section

variable {bs : List Byte} {i : Instr} {s t : State} {by1 : Word} {again : Bool}

/-- A block move that goes back where `more` says so of the new BC. -/
theorem runs_of_blockMove (more : Word → Bool) (hd : decode bs = .ok (i, [])) (ht : t = (s.fetched 2 2 16).blockMove by1)
    (hx : exec i s = .next (t.repeatBlock again)) (hagain : again = more t.bc) :
    Runs bs i s 2 (if more (s.bc - 1) then 21 else 16) (moved s by1 more) (stores s.de (s.memRead s.hl)) := by
  have hbc : t.bc = s.bc - 1 := by
    rw [ht, blockMove_eq_withCpu]; exact mkWord_bytes _
  rw [hbc] at hagain
  subst ht hagain
  refine ⟨hd, ?_⟩
  rw [hx, ← moved_again]
  exact (yields_blockMove s by1).repeatBlock (stores_repeatBlock _)

/-- A block compare that goes back where `more` says so of the new BC and of the difference. -/
theorem runs_of_blockCompare (more : Word → Byte → Bool) (hd : decode bs = .ok (i, []))
    (ht : t = (s.fetched 2 2 16).blockCompare by1) (hx : exec i s = .next (t.repeatBlock again))
    (hagain : again = more t.bc (minus s.a (s.memRead s.hl) 0)) :
    Runs bs i s 2 (if more (s.bc - 1) (minus s.a (s.memRead s.hl) 0) then 21 else 16) (compared s by1 more) same := by
  have hbc : t.bc = s.bc - 1 := by
    rw [ht, blockCompare_eq_withCpu]; exact mkWord_bytes _
  rw [hbc] at hagain
  subst ht hagain
  refine ⟨hd, ?_⟩
  rw [hx, ← compared_again]
  exact (yields_blockCompare s by1).repeatBlock (same_repeatBlock _)

end

end Sys2Proof.Claim
end

section
/-! The exchange and block group (42_exchange_block R300 to R314): the exchanges are registers and at most one word stored at SP; the
block instructions are one turn and then their repeat, which the single forms never take. -/

namespace Sys2Proof.Machine

open Claim

/-- Settles O7: the exchanges with the stack read the word at SP before they store over it. -/
theorem exchanges : Obligations.Exchanges := by
  intro s
  refine ⟨?exAF, ?exx, ?exDEHL, ?topHL, ?topIX, ?topIY⟩
  case exAF | exx => exact ⟨decode_of_encode rfl rfl rfl, _, rfl, rfl, rfl, rfl, ⟨fun _ => rfl, rfl⟩, rfl⟩
  case exDEHL => exact runs_of_withCpu (decode_of_encode rfl rfl rfl) rfl
  case topHL => exact runs_of_putTop (·.putHL (wordAt s s.sp)) (decode_of_encode rfl rfl rfl) rfl rfl
  case topIX => exact runs_of_putTop ({ · with ix := wordAt s s.sp }) (decode_of_encode rfl rfl rfl) rfl rfl
  case topIY => exact runs_of_putTop ({ · with iy := wordAt s s.sp }) (decode_of_encode rfl rfl rfl) rfl rfl

/-- Settles O8: the new BC is 0 where the old one is 1. -/
theorem blockMoves : Obligations.BlockMoves := by
  intro s v more n
  have hlast : s.bc - 1 = 0 ↔ s.bc = 1 := sub_eq_zero
  have hn : n = if more (s.bc - 1) then 21 else 16 := by
    simp only [n, more, ← hlast, decide_eq_true_eq, ne_eq, ite_not]
  rw [hn]
  refine ⟨?ldi, ?ldir, ?ldd, ?lddr⟩
  case ldi | ldd => exact runs_of_blockMove (fun _ => false) (decode_of_encode rfl rfl rfl) rfl rfl rfl
  case ldir | lddr => exact runs_of_blockMove more (decode_of_encode rfl rfl rfl) rfl rfl (bne_zero_eq_decide _)

/-- The repeat of CPIR and CPDR asks the flags of the turn for ZF: no match was found (42_exchange_block R312, R314). -/
theorem compareRepeats_eq {s t : State} {by1 : Word} (ht : t = (s.fetched 2 2 16).blockCompare by1) :
    (t.bc != 0 && !flagZ t.f) = decide (t.bc ≠ 0 ∧ minus s.a (s.memRead s.hl) 0 ≠ 0) := by
  have hz : flagZ t.f = decide (minus s.a (s.memRead s.hl) 0 = 0) := by
    rw [ht]; exact flagZ_compareFlags _ _ _ _
  rw [hz, bne_zero_eq_decide, ← decide_not, ← Bool.decide_and]

/-- Settles O9: the difference is 0 where A is the byte, and the new BC is 0 where the old one is 1. -/
theorem blockCompares : Obligations.BlockCompares := by
  intro s more n
  have hlast : s.bc - 1 = 0 ↔ s.bc = 1 := sub_eq_zero
  have hn : n = if more (s.bc - 1) (minus s.a (s.memRead s.hl) 0) then 21 else 16 := by
    simp only [n, more, ← hlast, ← minus_eq_zero_iff (a := s.a), decide_eq_true_eq, ne_eq, ← not_or, ite_not]
  rw [hn]
  refine ⟨?cpi, ?cpir, ?cpd, ?cpdr⟩
  case cpi | cpd => exact runs_of_blockCompare (fun _ _ => false) (decode_of_encode rfl rfl rfl) rfl rfl rfl
  case cpir | cpdr => exact runs_of_blockCompare more (decode_of_encode rfl rfl rfl) rfl rfl (compareRepeats_eq rfl)

end Sys2Proof.Machine
end

section
/-! What the 8-bit operations leave, in the words of the claims: the sums, differences and logic of the model are those in plain numbers
(43_alu8 R331 to R334), an operation on A is an update of registers, and INC and DEC of a memory byte one store besides. -/

namespace Sys2Proof.Claim

open Sys2Proof.Machine

/-! ### Overflow -/

/-- A sum leaves the range of signed bytes where both operands have the sign that the result has not. -/
theorem sum_overflows_iff {a v res : Byte} {k : Nat} (hres : res.toNat = (a.toNat + v.toNat + k) % 256) (hk : k ≤ 1) :
    a.toInt + v.toInt + k ≠ res.toInt ↔ (128 ≤ a.toNat ↔ 128 ≤ v.toNat) ∧ ¬(128 ≤ a.toNat ↔ 128 ≤ res.toNat) := by
  simp only [BitVec.toInt_eq_toNat_cond]
  omega

theorem overflow_of_sum (a v : Byte) (c : Bool) :
    let res := BitVec.ofNat 8 (a.toNat + v.toNat + c.toNat)
    (~~~(a ^^^ v) &&& (a ^^^ res)).getLsbD 7 = decide (a.toInt + v.toInt + c.toNat ≠ res.toInt) := by
  intro res
  rw [Bool.eq_iff_iff, decide_eq_true_iff, sum_overflows_iff (BitVec.toNat_ofNat _ 8) c.toNat_le, BitVec.getLsbD_and,
    BitVec.getLsbD_not, BitVec.getLsbD_xor, BitVec.getLsbD_xor, getLsbD_seven, getLsbD_seven, getLsbD_seven]
  simp [res]

/-- A difference, with what was taken from it added back, is the byte it was taken from. -/
theorem minus_add_back (a v : Byte) (k : Nat) : BitVec.ofNat 8 ((minus a v k).toNat + v.toNat + k) = a := by
  simp only [minus_eq_sub, BitVec.ofNat_add, BitVec.ofNat_toNat, BitVec.setWidth_eq]
  ring

/-- The overflow mask of a difference (43_alu8 R332) is that of the sum that gives `a` back (43_alu8 R331): where `res` and `a` differ in
a bit, `a` and `v` differ in it just where `res` and `v` do not. -/
theorem difference_mask_eq (a v res : Byte) : (a ^^^ v) &&& (a ^^^ res) = ~~~(res ^^^ v) &&& (res ^^^ a) := by
  ext k hk
  simp only [BitVec.getElem_and, BitVec.getElem_xor, BitVec.getElem_not]
  generalize a[k] = x, v[k] = y, res[k] = z
  decide +revert

theorem overflow_of_difference (a v : Byte) (c : Bool) :
    let res := minus a v c.toNat
    ((a ^^^ v) &&& (a ^^^ res)).getLsbD 7 = decide (a.toInt - v.toInt - c.toNat ≠ res.toInt) := by
  intro res
  have hsum := overflow_of_sum res v c
  rw [minus_add_back] at hsum
  rw [difference_mask_eq, hsum, decide_eq_decide]
  omega

/-! ### Results and flags -/

theorem plus_eq_add8 (c : Cpu) (v : Byte) (k : Bool) :
    c.plus v k.toNat = { c with a := (add8 c.a v k).1, f := (add8 c.a v k).2 } := by
  rw [add8, flagByte_of_result, overflow_of_sum, toNat_and_low, toNat_and_low]
  rfl

theorem sub8_flags_eq (a v : Byte) (k : Bool) : (sub8 a v k).2 = minusFlags a v k.toNat (minus a v k.toNat) := by
  have hhalf : decide (((a &&& 0x0F).toNat : Int) - (v &&& 0x0F).toNat - k.toNat < 0) =
      decide (a.toNat % 16 < v.toNat % 16 + k.toNat) := by
    rw [decide_eq_decide, toNat_and_low, toNat_and_low]; omega
  have hborrow : decide ((a.toNat : Int) - v.toNat - k.toNat < 0) = decide (a.toNat < v.toNat + k.toNat) := by
    rw [decide_eq_decide]; omega
  have hover := overflow_of_difference a v k
  rw [minus] at hover
  rw [sub8, hhalf, hborrow, hover, flagByte_eq_bits, getLsbD_seven]
  rfl

theorem minus_eq_sub8 (c : Cpu) (v : Byte) (k : Bool) :
    c.minus v k.toNat = { c with a := (sub8 c.a v k).1, f := (sub8 c.a v k).2 } := by
  rw [sub8_flags_eq]; rfl

/-- A flag register with YF and XF replaced. -/
theorem bits_with_yx (sf zf yf hf xf pf nf cf y x : Bool) :
    let f := bits sf zf yf hf xf pf nf cf
    flagByte (flagS f) (flagZ f) y (flagH f) x (flagP f) (flagN f) (flagC f) = bits sf zf y hf x pf nf cf := by
  decide +revert

theorem parity_eq_even (v : Byte) : parity v = even v := by decide +revert

theorem logicFlags_eq (h : Bool) (res : Byte) : logicFlags h res = flagsOf res h (even res) false false := by
  rw [logicFlags, flagByte_of_result, parity_eq_even]

theorem inc8_eq (v f : Byte) :
    inc8 v f = (inc v, flagsOf (inc v) (decide (v.toNat % 16 = 15)) (decide (v = 0x7F)) false (f.getLsbD 0)) := by
  have hres : v + 1 = inc v := by simp [inc, BitVec.ofNat_add]
  have hhalf : (v &&& 0x0F == 0x0F) = decide (v.toNat % 16 = 15) := by
    rw [← toNat_and_low]; exact decide_eq_decide.mpr BitVec.toNat_eq
  rw [inc8, hres, hhalf, flagByte_of_result]
  rfl

theorem dec8_eq (v f : Byte) :
    dec8 v f = (dec v, flagsOf (dec v) (decide (v.toNat % 16 = 0)) (decide (v = 0x80)) true (f.getLsbD 0)) := by
  have hres : v - 1 = dec v := by simp [dec, BitVec.ofNat_add, BitVec.sub_eq_add_neg]
  have hhalf : (v &&& 0x0F == 0x00) = decide (v.toNat % 16 = 0) := by
    rw [← toNat_and_low]; exact decide_eq_decide.mpr BitVec.toNat_eq
  rw [dec8, hres, hhalf, flagByte_of_result]
  rfl

/-! ### Operations on A -/

theorem addA_eq_withCpu (s : State) (v : Byte) : s.addA v = withCpu s ((cpu s).plus v 0) :=
  congrArg (withCpu s) (plus_eq_add8 (cpu s) v false).symm

theorem adcA_eq_withCpu (s : State) (v : Byte) : s.adcA v = withCpu s ((cpu s).plus v (cpu s).carry) :=
  congrArg (withCpu s) (plus_eq_add8 (cpu s) v (flagC s.f)).symm

theorem subA_eq_withCpu (s : State) (v : Byte) : s.subA v = withCpu s ((cpu s).minus v 0) :=
  congrArg (withCpu s) (minus_eq_sub8 (cpu s) v false).symm

theorem sbcA_eq_withCpu (s : State) (v : Byte) : s.sbcA v = withCpu s ((cpu s).minus v (cpu s).carry) :=
  congrArg (withCpu s) (minus_eq_sub8 (cpu s) v (flagC s.f)).symm

theorem andA_eq_withCpu (s : State) (v : Byte) : s.andA v = withCpu s ((cpu s).logic (s.a &&& v) true) := by
  rw [State.andA, logicFlags_eq]; rfl

theorem xorA_eq_withCpu (s : State) (v : Byte) : s.xorA v = withCpu s ((cpu s).logic (s.a ^^^ v) false) := by
  rw [State.xorA, logicFlags_eq]; rfl

theorem orA_eq_withCpu (s : State) (v : Byte) : s.orA v = withCpu s ((cpu s).logic (s.a ||| v) false) := by
  rw [State.orA, logicFlags_eq]; rfl

theorem cpA_eq_withCpu (s : State) (v : Byte) : s.cpA v = withCpu s ((cpu s).compare v) := by
  rw [State.cpA, sub8_flags_eq, minusFlags, bits_with_yx]; rfl

/-! ### INC and DEC -/

theorem incReg_eq_withCpu (s : State) (r : Reg8) :
    s.incReg r = withCpu s (((cpu s).incFlags (s.reg r)).put r (inc (s.reg r))) := by
  rw [State.incReg, inc8_eq]; cases r <;> rfl

theorem decReg_eq_withCpu (s : State) (r : Reg8) :
    s.decReg r = withCpu s (((cpu s).decFlags (s.reg r)).put r (dec (s.reg r))) := by
  rw [State.decReg, dec8_eq]; cases r <;> rfl

/-- A store does not depend on the registers, and leaves them. -/
theorem memWrite_withCpu (s : State) (c : Cpu) (addr : Word) (v : Byte) :
    (withCpu s c).memWrite addr v = withCpu (s.memWrite addr v) c := by
  rw [State.memWrite_congr (s := s) (u := withCpu s c) rfl rfl rfl rfl, s.memWrite_eq addr v]; rfl

theorem incMem_eq_withCpu (s : State) (addr : Word) :
    s.incMem addr = withCpu (s.memWrite addr (inc (s.memRead addr))) ((cpu s).incFlags (s.memRead addr)) := by
  rw [State.incMem, inc8_eq]; exact memWrite_withCpu s ((cpu s).incFlags _) addr _

theorem decMem_eq_withCpu (s : State) (addr : Word) :
    s.decMem addr = withCpu (s.memWrite addr (dec (s.memRead addr))) ((cpu s).decFlags (s.memRead addr)) := by
  rw [State.decMem, dec8_eq]; exact memWrite_withCpu s ((cpu s).decFlags _) addr _

/-- An instruction that, after its fetch, stores one byte and changes registers. -/
theorem runs_of_memWrite_withCpu {bs : List Byte} {i : Instr} {s : State} {len : Word} {m1 : BitVec 7} {n : Nat} {addr : Word}
    {v : Byte} {c : Cpu} (hd : decode bs = .ok (i, []))
    (hx : exec i s = .next (withCpu ((s.fetched len m1 n).memWrite addr v) c)) : Runs bs i s m1 n c (stores addr v) := by
  refine ⟨hd, ?_⟩
  rw [hx]
  exact (yields_memWrite s len m1 n addr v).withCpu (fun _ => c) id

end Sys2Proof.Claim
end

section
/-! The 8-bit arithmetic and logic group (43_alu8 R330 to R383): an operation on A is its fetch and one update of registers in each of its
five operand forms, in the order of R335; INC and DEC of memory are a fetch, a store and the flags. -/

namespace Sys2Proof.Machine

open Claim

/-- Settles O10: ADD is the sum without a carry in, ADC the sum with CF. -/
theorem addAndAdc : Obligations.AddAndAdc := by
  constructor
  case left =>
    refine fun s r n d => ⟨?_, ?_, ?_, ?_, ?_⟩
    all_goals exact runs_of_withCpu (decode_of_encode rfl rfl rfl) (congrArg _ (addA_eq_withCpu (s.fetched _ _ _) _))
  case right =>
    refine fun s r n d => ⟨?_, ?_, ?_, ?_, ?_⟩
    all_goals exact runs_of_withCpu (decode_of_encode rfl rfl rfl) (congrArg _ (adcA_eq_withCpu (s.fetched _ _ _) _))

/-- Settles O11: SUB is the difference without a borrow in, SBC the difference with CF as borrow. -/
theorem subAndSbc : Obligations.SubAndSbc := by
  constructor
  case left =>
    refine fun s r n d => ⟨?_, ?_, ?_, ?_, ?_⟩
    all_goals exact runs_of_withCpu (decode_of_encode rfl rfl rfl) (congrArg _ (subA_eq_withCpu (s.fetched _ _ _) _))
  case right =>
    refine fun s r n d => ⟨?_, ?_, ?_, ?_, ?_⟩
    all_goals exact runs_of_withCpu (decode_of_encode rfl rfl rfl) (congrArg _ (sbcA_eq_withCpu (s.fetched _ _ _) _))

/-- Settles O12: CP is SUB without its write to A, with YF and XF of the operand. -/
theorem andAndCompare : Obligations.AndAndCompare := by
  constructor
  case left =>
    refine fun s r n d => ⟨?_, ?_, ?_, ?_, ?_⟩
    all_goals exact runs_of_withCpu (decode_of_encode rfl rfl rfl) (congrArg _ (andA_eq_withCpu (s.fetched _ _ _) _))
  case right =>
    refine fun s r n d => ⟨?_, ?_, ?_, ?_, ?_⟩
    all_goals exact runs_of_withCpu (decode_of_encode rfl rfl rfl) (congrArg _ (cpA_eq_withCpu (s.fetched _ _ _) _))

/-- Settles O13: XOR and OR have the flags of AND but for HF. -/
theorem orAndXor : Obligations.OrAndXor := by
  constructor
  case left =>
    refine fun s r n d => ⟨?_, ?_, ?_, ?_, ?_⟩
    all_goals exact runs_of_withCpu (decode_of_encode rfl rfl rfl) (congrArg _ (xorA_eq_withCpu (s.fetched _ _ _) _))
  case right =>
    refine fun s r n d => ⟨?_, ?_, ?_, ?_, ?_⟩
    all_goals exact runs_of_withCpu (decode_of_encode rfl rfl rfl) (congrArg _ (orA_eq_withCpu (s.fetched _ _ _) _))

/-- Settles O15: the flags come from the byte as read, and stand whether or not the store takes effect. -/
theorem incAndDec : Obligations.IncAndDec := by
  intro s r d m ax ay
  refine ⟨?incR, ?incHL, ?incIX, ?incIY, ?decR, ?decHL, ?decIX, ?decIY⟩
  case incR => exact runs_of_withCpu (decode_of_encode rfl rfl rfl) (congrArg _ (incReg_eq_withCpu (s.fetched _ _ _) r))
  case decR => exact runs_of_withCpu (decode_of_encode rfl rfl rfl) (congrArg _ (decReg_eq_withCpu (s.fetched _ _ _) r))
  case incHL | incIX | incIY =>
    exact runs_of_memWrite_withCpu (decode_of_encode rfl rfl rfl) (congrArg _ (incMem_eq_withCpu (s.fetched _ _ _) _))
  case decHL | decIX | decIY =>
    exact runs_of_memWrite_withCpu (decode_of_encode rfl rfl rfl) (congrArg _ (decMem_eq_withCpu (s.fetched _ _ _) _))

end Sys2Proof.Machine
end

section
/-! What the adjustments of A and the control of the CPU leave, in the words of the claims: DAA and the complements in plain numbers, and
an instruction that changes the control state alone, that is the halt, the interrupt flip-flops and the interrupt mode
(44_general_cpu_control R400 to R413). -/

namespace Sys2Proof.Claim

open Sys2Proof.Machine

/-! ### Adjustments of A -/

/-- The two halves of the correction have no bit in common, so that their union is their sum. -/
theorem daaCorrection_eq (low high : Bool) :
    (if low then 0x06 else 0x00 : Byte) ||| (if high then 0x60 else 0x00) =
      BitVec.ofNat 8 (6 * low.toNat + 96 * high.toNat) := by
  decide +revert

theorem add_ofNat_eq (a : Byte) (n : Nat) : a + BitVec.ofNat 8 n = BitVec.ofNat 8 (a.toNat + n) := by
  rw [BitVec.ofNat_add, BitVec.ofNat_toNat, BitVec.setWidth_eq]

/-- DAA in plain numbers (44_general_cpu_control R401). -/
theorem daaResult_eq (a f : Byte) :
    let low := f.getLsbD 4 || decide (9 < a.toNat % 16)
    let high := f.getLsbD 0 || decide (0x99 < a.toNat)
    let corr := 6 * low.toNat + 96 * high.toNat
    let nf := f.getLsbD 1
    let res := if nf then minus a (BitVec.ofNat 8 corr) 0 else BitVec.ofNat 8 (a.toNat + corr)
    let hf := if nf then f.getLsbD 4 && decide (a.toNat % 16 < 6) else decide (9 < a.toNat % 16)
    daaResult a f = (res, flagsOf res hf (even res) nf high) := by
  dsimp only
  rw [daaResult, daaCorrection_eq, add_ofNat_eq, ← minus_zero, toNat_and_low, flagByte_of_result, parity_eq_even]
  rfl

theorem not_eq_ofNat (v : Byte) : ~~~v = BitVec.ofNat 8 (255 - v.toNat) := by
  apply BitVec.eq_of_toNat_eq
  rw [BitVec.toNat_not, BitVec.toNat_ofNat]
  omega

/-- An instruction that, after its fetch, gives A and F new values, `x` and `y` in the words of the model. -/
theorem runs_of_setAF {bs : List Byte} {i : Instr} {s : State} {len : Word} {m1 : BitVec 7} {n : Nat} {x y a f : Byte}
    (hd : decode bs = .ok (i, [])) (hx : exec i s = .next { s.fetched len m1 n with a := x, f := y }) (ha : x = a) (hf : y = f) :
    Runs bs i s m1 n { past s len with a := a, f := f } same := by
  subst ha hf
  exact runs_of_withCpu hd hx

/-! ### Control of the CPU -/

/-- Everything but the halt, the interrupt flip-flops, the position of EI and the interrupt mode is in `u` as in `s`. -/
def ControlOnly (s u : State) : Prop :=
  u = { s with
    halted := u.halted
    haltPos := u.haltPos
    iff1 := u.iff1
    iff2 := u.iff2
    eiPos := u.eiPos
    im := u.im }

theorem ControlOnly.yields_fetched {s u : State} (h : ControlOnly s u) (len : Word) (m1 : BitVec 7) (n : Nat) :
    Yields (.next (u.fetched len m1 n)) s u m1 n (past s len) same := by
  rw [h]
  exact ⟨_, rfl, rfl, rfl, rfl, ⟨fun _ => rfl, rfl⟩, rfl⟩

/-- An instruction that, after its fetch, changes the control state only. -/
theorem takes_of_controlOnly {bs : List Byte} {i : Instr} {s u : State} {len : Word} {m1 : BitVec 7} {n : Nat}
    (hd : decode bs = .ok (i, [])) (hx : exec i s = .next (u.fetched len m1 n)) (hu : ControlOnly s u) :
    Takes bs i s u m1 n (past s len) same := by
  refine ⟨hd, ?_⟩
  rw [hx]
  exact hu.yields_fetched len m1 n

/-- The bytes behind ED that 30_encoding R178 leaves unassigned, by their number. -/
theorem unassignedEd_iff (op : Byte) :
    unassignedEd op = true ↔ op.toNat < 0x40 ∨ 0x80 ≤ op.toNat ∧ op.toNat < 0xA0 ∨
      0xA0 ≤ op.toNat ∧ op.toNat < 0xC0 ∧ op.getLsbD 2 = true ∨ 0xC0 ≤ op.toNat := by
  decide +revert

end Sys2Proof.Claim
end

section
/-! The general-purpose arithmetic and CPU control group (44_general_cpu_control R400 to R413) with its mirrors and no-operations
(50_undocumented R586, R588, R589), and the cycle of a halted CPU (44_general_cpu_control R408). -/

namespace Sys2Proof.Machine

open Claim

/-- Settles O17: each adjustment is its fetch and an update of A and F, the mirrors of NEG being NEG itself. -/
theorem accumulatorAdjust : Obligations.AccumulatorAdjust := by
  intro s k low high corr nf res hf na negated
  have hdaa : daaResult s.a s.f = (res, flagsOf res hf (even res) nf high) := daaResult_eq s.a s.f
  have hna : ~~~s.a = na := not_eq_ofNat s.a
  refine ⟨?daa, ?cpl, ?neg, fun hk => ?negMirror, ?ccf, ?scf⟩
  case daa => exact runs_of_setAF (decode_of_encode rfl rfl rfl) rfl (congrArg Prod.fst hdaa) (congrArg Prod.snd hdaa)
  case cpl =>
    rw [← hna]
    exact runs_of_setAF (decode_of_encode rfl rfl rfl) rfl rfl (flagByte_eq_bits ..)
  case neg => exact runs_of_setAF (decode_of_encode rfl rfl rfl) rfl rfl (sub8_flags_eq 0 s.a false)
  case negMirror => exact runs_of_setAF (decode_of_encode rfl (bne_iff_ne.2 hk) rfl) rfl rfl (sub8_flags_eq 0 s.a false)
  case ccf | scf => exact runs_of_setAF (decode_of_encode rfl rfl rfl) rfl rfl (flagByte_eq_bits ..)

/-- Settles O18: each of them is its fetch from a state that differs from the old one in its control state alone. -/
theorem cpuControl : Obligations.CpuControl := by
  intro s k j op
  refine ⟨?nop, ?nopEd77, fun hop => ?nopEd, ?halt, ?di, ?ei, ?im0, ?im1, ?im2, fun hk => ?imMirror⟩
  case nopEd => exact takes_of_controlOnly (decode_of_encode rfl ((unassignedEd_iff op).2 hop) rfl) rfl rfl
  case imMirror =>
    obtain rfl | rfl | rfl | rfl | rfl := hk
    all_goals exact takes_of_controlOnly (decode_of_encode rfl rfl rfl) rfl rfl
  all_goals exact takes_of_controlOnly (decode_of_encode rfl rfl rfl) rfl rfl

theorem execPart_of_halted {s : State} (ha : s.acceptsInt = false) (hh : s.halted = true) : execPart s = .next s.haltedCycle := by
  simp [execPart, ha, hh]

/-- Settles O48: no interrupt is entered and nothing is fetched. -/
theorem haltedCycle : Obligations.HaltedCycle := by
  intro s ha hh
  rw [step, execPart_of_halted ha hh]
  rfl

end Sys2Proof.Machine
end

section
/-! What the 16-bit operations leave, in the words of the claims: the sums and differences of the model are those in plain numbers
(45_alu16 R420 to R423), INC and DEC a sum and a difference with 1 (45_alu16 R426 to R431). -/

namespace Sys2Proof.Claim

open Sys2Proof.Machine

/-! ### Overflow -/

/-- A sum of words leaves the signed range where both operands have the sign that the result has not. -/
theorem sum16_overflows_iff {a v res : Word} {k : Nat} (hres : res.toNat = (a.toNat + v.toNat + k) % 65536) (hk : k ≤ 1) :
    a.toInt + v.toInt + k ≠ res.toInt ↔ a.msb = v.msb ∧ a.msb ≠ res.msb := by
  simp only [BitVec.toInt_eq_toNat_cond, BitVec.msb_eq_decide, decide_eq_decide, ne_eq]
  omega

theorem overflow_of_sum16 (a v : Word) (c : Bool) :
    let res := sum16 a v c.toNat
    (~~~(a ^^^ v) &&& (a ^^^ res)).getLsbD 15 = decide (a.toInt + v.toInt + c.toNat ≠ res.toInt) := by
  intro res
  have hmsb : (~~~(a ^^^ v) &&& (a ^^^ res)).msb = (!(a.msb ^^ v.msb) && (a.msb ^^ res.msb)) := by simp
  have hsum : a.toInt + v.toInt + c.toNat ≠ res.toInt ↔ a.msb = v.msb ∧ a.msb ≠ res.msb :=
    sum16_overflows_iff (BitVec.toNat_ofNat _ 16) c.toNat_le
  refine hmsb.trans ?_
  rw [Bool.eq_iff_iff, decide_eq_true_iff, hsum]
  generalize a.msb = x, v.msb = y, res.msb = z
  decide +revert

/-- `diff16`, a difference of numbers, is the difference of words. -/
theorem diff16_eq_sub (a v : Word) (k : Nat) : diff16 a v k = a - v - BitVec.ofNat 16 k := by
  simp [diff16, Int.sub_eq_add_neg, BitVec.ofInt_add, BitVec.ofInt_neg, BitVec.ofInt_natCast, BitVec.sub_eq_add_neg]

/-- A difference, with what was taken from it added back, is the word it was taken from. -/
theorem toNat_diff16_add_back (a v : Word) (k : Nat) : a.toNat = ((diff16 a v k).toNat + v.toNat + k) % 65536 := by
  rw [diff16_eq_sub]
  bv_omega

/-- The overflow mask of a difference asks of the signs what that of the sum that gives `a` back asks (45_alu16 R422, R423). -/
theorem overflow_of_diff16 (a v : Word) (c : Bool) :
    let res := diff16 a v c.toNat
    ((a ^^^ v) &&& (a ^^^ res)).getLsbD 15 = decide (a.toInt - v.toInt - c.toNat ≠ res.toInt) := by
  intro res
  have hmsb : ((a ^^^ v) &&& (a ^^^ res)).msb = ((a.msb ^^ v.msb) && (a.msb ^^ res.msb)) := by simp
  have hsum := sum16_overflows_iff (toNat_diff16_add_back a v c.toNat) c.toNat_le
  have hsub : a.toInt - v.toInt - c.toNat ≠ res.toInt ↔ res.toInt + v.toInt + c.toNat ≠ a.toInt := by omega
  refine hmsb.trans ?_
  rw [Bool.eq_iff_iff, decide_eq_true_iff, hsub, hsum]
  generalize a.msb = x, v.msb = y, res.msb = z
  decide +revert

/-! ### Results and flags -/

theorem toNat_and_low12 (v : Word) : (v &&& 0x0FFF).toNat = v.toNat % 4096 := by
  rw [BitVec.toNat_and]
  exact Nat.and_two_pow_sub_one_eq_mod v.toNat 12

theorem getLsbD_fifteen (v : Word) : v.getLsbD 15 = decide (32768 ≤ v.toNat) := BitVec.msb_eq_decide v

theorem addFlags_eq_add16 (c : Cpu) (a v : Word) : c.addFlags a v = { c with f := (add16 a v c.f).2 } := by
  rw [add16, toNat_and_low12, toNat_and_low12, flagByte_eq_bits]
  rfl

theorem adcFlags_eq_adc16 (c : Cpu) (a v : Word) (k : Bool) : c.adcFlags a v k.toNat = { c with f := (adc16 a v k).2 } := by
  have hover := overflow_of_sum16 a v k
  rw [sum16] at hover
  rw [adc16, hover, toNat_and_low12, toNat_and_low12, getLsbD_fifteen, flagByte_eq_bits]
  rfl

theorem sbcFlags_eq_sbc16 (c : Cpu) (a v : Word) (k : Bool) : c.sbcFlags a v k.toNat = { c with f := (sbc16 a v k).2 } := by
  have hhalf : decide (((a &&& 0x0FFF).toNat : Int) - (v &&& 0x0FFF).toNat - k.toNat < 0) =
      decide (a.toNat % 4096 < v.toNat % 4096 + k.toNat) := by
    rw [decide_eq_decide, toNat_and_low12, toNat_and_low12]; omega
  have hborrow : decide ((a.toNat : Int) - v.toNat - k.toNat < 0) = decide (a.toNat < v.toNat + k.toNat) := by
    rw [decide_eq_decide]; omega
  have hover := overflow_of_diff16 a v k
  rw [diff16] at hover
  rw [sbc16, hhalf, hborrow, hover, getLsbD_fifteen, flagByte_eq_bits]
  rfl

theorem add_one_eq_sum16 (a : Word) : a + 1 = sum16 a 0 1 := by
  simp [sum16, BitVec.ofNat_add]

theorem sub_one_eq_diff16 (a : Word) : a - 1 = diff16 a 0 1 := by
  simp [diff16_eq_sub]

theorem pairIX_eq_addendIX (s : State) (p : PairXY) : s.pairIX p = addendIX s p := by cases p <;> rfl

theorem pairIY_eq_addendIY (s : State) (p : PairXY) : s.pairIY p = addendIY s p := by cases p <;> rfl

end Sys2Proof.Claim
end

section
/-! The 16-bit arithmetic group (45_alu16 R420 to R431): each instruction is its fetch and an update of registers, a sum or a difference
of two words with its flags, or of a word and 1 without flags. -/

namespace Sys2Proof.Machine

open Claim

/-- Settles O19: the flags are those of a sum or difference in plain numbers, and a step by 1 is one of them without its flags. -/
theorem wordArithmetic : Obligations.WordArithmetic := by
  intro s ss pp v k
  have hk : k = (flagC s.f).toNat := rfl
  refine ⟨?addHL, ?adcHL, ?sbcHL, ?addIX, ?addIY, ?incSs, ?incIX, ?incIY, ?decSs, ?decIX, ?decIY⟩
  case addHL =>
    rw [addFlags_eq_add16]
    exact runs_of_withCpu (len := 1) (decode_of_encode rfl rfl rfl) rfl
  case adcHL =>
    rw [hk, adcFlags_eq_adc16]
    exact runs_of_withCpu (len := 2) (decode_of_encode rfl rfl rfl) rfl
  case sbcHL =>
    rw [hk, sbcFlags_eq_sbc16]
    exact runs_of_withCpu (len := 2) (decode_of_encode rfl rfl rfl) rfl
  case addIX =>
    rw [addFlags_eq_add16, ← pairIX_eq_addendIX]
    exact runs_of_withCpu (len := 2) (decode_of_encode rfl rfl rfl) rfl
  case addIY =>
    rw [addFlags_eq_add16, ← pairIY_eq_addendIY]
    exact runs_of_withCpu (len := 2) (decode_of_encode rfl rfl rfl) rfl
  case incSs =>
    rw [← add_one_eq_sum16]
    exact runs_of_withCpu (decode_of_encode rfl rfl rfl) (congrArg _ (setPairSP_eq_withCpu (s.fetched _ _ _) ss _))
  case decSs =>
    rw [← sub_one_eq_diff16]
    exact runs_of_withCpu (decode_of_encode rfl rfl rfl) (congrArg _ (setPairSP_eq_withCpu (s.fetched _ _ _) ss _))
  case incIX | incIY => rw [← add_one_eq_sum16]; exact runs_of_withCpu (decode_of_encode rfl rfl rfl) rfl
  case decIX | decIY => rw [← sub_one_eq_diff16]; exact runs_of_withCpu (decode_of_encode rfl rfl rfl) rfl

end Sys2Proof.Machine
end

section
/-! What the rotates and shifts leave, in the words of the claims: bits put side by side are numbers again, a shift of an operand is an
update of registers or a store with its flags, and the four forms of a shift follow from its meaning alone (46_rotate_shift R440, R441). -/

namespace Sys2Proof.Claim

open Sys2Proof.Machine

/-! ### Results in plain numbers -/

/-- Bits `x` put above `n` bits `y` are the word of any number that agrees with `x * 2 ^ n + y` in its width. -/
theorem append_eq_ofNat {m n k : Nat} (x : BitVec m) (y : BitVec n) (h : (x.toNat * 2 ^ n + y.toNat) % 2 ^ (m + n) = k % 2 ^ (m + n)) :
    x ++ y = BitVec.ofNat (m + n) k := by
  apply BitVec.eq_of_toNat_eq
  rw [BitVec.toNat_ofNat, ← h, ← Nat.mod_eq_of_lt (x ++ y).isLt, BitVec.toNat_append, ← Nat.shiftLeft_add_eq_or_of_lt y.isLt,
    Nat.shiftLeft_eq]

theorem toNat_low_bits (v : Byte) (n : Nat) : (v.extractLsb' 0 n).toNat = v.toNat % 2 ^ n := BitVec.extractLsb'_toNat 0 n v

/-- The bits of a byte from bit `j` up are a quotient of it. -/
theorem toNat_high_bits (v : Byte) {j n : Nat} (h : j + n = 8) : (v.extractLsb' j n).toNat = v.toNat / 2 ^ j := by
  have hlt : v.toNat < 2 ^ j * 2 ^ n := by rw [← Nat.pow_add, h]; exact v.isLt
  rw [BitVec.extractLsb'_toNat, Nat.shiftRight_eq_div_pow, Nat.mod_eq_of_lt (Nat.div_lt_of_lt_mul hlt)]

theorem shRlc_eq_rlc (v : Byte) (c : Bool) : shRlc v c = rlc v c.toNat :=
  Prod.ext (append_eq_ofNat _ _ (by rw [toNat_low_bits, toNat_high_bits v rfl]; omega)) rfl

theorem shRrc_eq_rrc (v : Byte) (c : Bool) : shRrc v c = rrc v c.toNat :=
  Prod.ext (append_eq_ofNat _ _ (by rw [toNat_low_bits, toNat_high_bits v rfl]; omega)) rfl

theorem shRl_eq_rl (v : Byte) (c : Bool) : shRl v c = rl v c.toNat :=
  Prod.ext (append_eq_ofNat _ _ (by rw [toNat_low_bits, BitVec.toNat_ofBool]; omega)) rfl

theorem shRr_eq_rr (v : Byte) (c : Bool) : shRr v c = rr v c.toNat :=
  Prod.ext (append_eq_ofNat _ _ (by rw [BitVec.toNat_ofBool, toNat_high_bits v rfl]; omega)) rfl

theorem shSla_eq_sla (v : Byte) (c : Bool) : shSla v c = sla v c.toNat :=
  Prod.ext (append_eq_ofNat _ _ (by rw [toNat_low_bits, BitVec.toNat_ofNat]; omega)) rfl

theorem shSra_eq_sra (v : Byte) (c : Bool) : shSra v c = sra v c.toNat :=
  Prod.ext (append_eq_ofNat _ _ (by rw [toNat_high_bits v rfl, toNat_high_bits v rfl]; omega)) rfl

theorem shSrl_eq_srl (v : Byte) (c : Bool) : shSrl v c = srl v c.toNat :=
  Prod.ext (append_eq_ofNat _ _ (by rw [BitVec.toNat_ofNat, toNat_high_bits v rfl]; omega)) rfl

/-! ### Flags -/

theorem shiftFlags_eq (res : Byte) (co : Bool) : Machine.shiftFlags res co = flagsOf res false (even res) false co := by
  rw [Machine.shiftFlags, flagByte_of_result, parity_eq_even]

theorem parityFlags_eq (v f : Byte) : Machine.parityFlags v f = flagsOf v false (even v) false (f.getLsbD 0) := by
  rw [Machine.parityFlags, flagByte_of_result, parity_eq_even]; rfl

theorem accRotFlags_eq (res : Byte) (co : Bool) (f : Byte) :
    accRotFlags res co f =
      bits (f.getLsbD 7) (f.getLsbD 6) (res.getLsbD 5) false (res.getLsbD 3) (f.getLsbD 2) false co :=
  flagByte_eq_bits ..

/-! ### Operations on an operand -/

section

variable {sh : Byte → Bool → Byte × Bool} {sh' : Byte → Nat → Byte × Bool} (hsh : ∀ v c, sh v c = sh' v c.toNat)
include hsh

theorem shiftReg_eq_withCpu (s : State) (r : Reg8) :
    s.shiftReg sh r =
      withCpu s (((cpu s).shiftFlags (sh' (s.reg r) (cpu s).carry)).put r (sh' (s.reg r) (cpu s).carry).1) := by
  rw [State.shiftReg, hsh, shiftFlags_eq]; cases r <;> rfl

theorem shiftMem_eq_withCpu (s : State) (addr : Word) :
    s.shiftMem sh addr =
      withCpu (s.memWrite addr (sh' (s.memRead addr) (cpu s).carry).1)
        ((cpu s).shiftFlags (sh' (s.memRead addr) (cpu s).carry)) := by
  rw [State.shiftMem, hsh, shiftFlags_eq]; exact memWrite_withCpu s ((cpu s).shiftFlags _) addr _

/-- A shift of a register after the fetch. -/
theorem runs_of_shiftReg {bs : List Byte} {i : Instr} {s : State} {len : Word} {m1 : BitVec 7} {n : Nat} {r : Reg8}
    (hd : decode bs = .ok (i, [])) (hx : exec i s = .next ((s.fetched len m1 n).shiftReg sh r)) :
    let p := sh' (s.reg r) (cpu s).carry
    Runs bs i s m1 n (((past s len).shiftFlags p).put r p.1) same :=
  runs_of_withCpu hd (hx.trans (congrArg _ (shiftReg_eq_withCpu hsh (s.fetched len m1 n) r)))

/-- A shift of a memory byte after the fetch. -/
theorem runs_of_shiftMem {bs : List Byte} {i : Instr} {s : State} {len : Word} {m1 : BitVec 7} {n : Nat} {addr : Word}
    (hd : decode bs = .ok (i, [])) (hx : exec i s = .next ((s.fetched len m1 n).shiftMem sh addr)) :
    let p := sh' (s.memRead addr) (cpu s).carry
    Runs bs i s m1 n ((past s len).shiftFlags p) (stores addr p.1) :=
  runs_of_memWrite_withCpu hd (hx.trans (congrArg _ (shiftMem_eq_withCpu hsh (s.fetched len m1 n) addr)))

/-- A one-byte rotate of A after its fetch: SF, ZF and PF are kept (46_rotate_shift R442 to R445). -/
theorem runs_of_rotA {bs : List Byte} {i : Instr} {s : State} (hd : decode bs = .ok (i, []))
    (hx : exec i s = .next ((s.fetched 1 1 4).rotA sh)) :
    let p := sh' s.a (cpu s).carry
    Runs bs i s 1 4
      { past s 1 with
        a := p.1
        f := bits (s.f.getLsbD 7) (s.f.getLsbD 6) (p.1.getLsbD 5) false (p.1.getLsbD 3) (s.f.getLsbD 2) false p.2 } same := by
  have hp : sh s.a (flagC s.f) = sh' s.a (cpu s).carry := hsh s.a (flagC s.f)
  intro p
  refine runs_of_setAF hd hx (congrArg Prod.fst hp) ?_
  rw [accRotFlags_eq, State.fetched_a, State.fetched_f, hp]

end

theorem digit_eq_withCpu (s : State) (low acc : Byte) :
    s.digit low acc = withCpu (s.memWrite s.hl low) { (cpu s).parityFlags acc with a := acc } := by
  rw [State.digit, parityFlags_eq]; exact memWrite_withCpu s { (cpu s).parityFlags acc with a := acc } s.hl low

/-! ### The four forms of a shift -/

/-- The bytes are the instruction, and from every state it completes by its fetch and then `op`. -/
structure FetchThen (bs : List Byte) (i : Instr) (len : Word) (m1 : BitVec 7) (n : Nat) (op : State → State) : Prop where
  decodes : decode bs = .ok (i, [])
  completes : ∀ s, exec i s = .next (op (s.fetched len m1 n))

/-- Four instructions that shift their operand by `sh`, a shift that is `sh'` in plain numbers, are the forms of that shift. -/
theorem onShift {y : BitVec 3} {ofR : Reg8 → Instr} {ofHL : Instr} {ofIX ofIY : Byte → Instr} {sh : Byte → Bool → Byte × Bool}
    {sh' : Byte → Nat → Byte × Bool} (hsh : ∀ v c, sh v c = sh' v c.toNat)
    (hR : ∀ r, FetchThen [0xCB, opXYZ 0 y r.code] (ofR r) 2 2 8 (·.shiftReg sh r))
    (hHL : FetchThen [0xCB, opXYZ 0 y 6] ofHL 2 2 15 fun s => s.shiftMem sh s.hl)
    (hIX : ∀ d, FetchThen [0xDD, 0xCB, d, opXYZ 0 y 6] (ofIX d) 4 2 23 fun s => s.shiftMem sh (s.addrIX d))
    (hIY : ∀ d, FetchThen [0xFD, 0xCB, d, opXYZ 0 y 6] (ofIY d) 4 2 23 fun s => s.shiftMem sh (s.addrIY d)) :
    OnShift y ofR ofHL ofIX ofIY sh' := by
  intro s r d
  refine ⟨runs_of_shiftReg hsh (hR r).decodes ?r, runs_of_shiftMem hsh hHL.decodes ?hl,
    runs_of_shiftMem hsh (hIX d).decodes ?ix, runs_of_shiftMem hsh (hIY d).decodes ?iy⟩
  case r => exact (hR r).completes s
  case hl => exact hHL.completes s
  case ix => exact (hIX d).completes s
  case iy => exact (hIY d).completes s

end Sys2Proof.Claim
end

section
/-! The rotate and shift group (46_rotate_shift R440 to R475): each instruction is its fetch and one operation on its operand, which in
plain numbers is the shift of the claim. -/

namespace Sys2Proof.Machine

open Claim

/-- Settles O20: RLD and RRD store two digits at HL and put the third below the high digit of A. -/
theorem accumulatorRotates : Obligations.AccumulatorRotates := by
  intro s k out m a la ra
  have hla : s.a.extractLsb' 4 4 ++ (s.memRead s.hl).extractLsb' 4 4 = la :=
    append_eq_ofNat _ _ (by rw [toNat_high_bits _ rfl, toNat_high_bits _ rfl]; rfl)
  have hra : s.a.extractLsb' 4 4 ++ (s.memRead s.hl).extractLsb' 0 4 = ra :=
    append_eq_ofNat _ _ (by rw [toNat_high_bits _ rfl, toNat_low_bits]; rfl)
  have hlm : (s.memRead s.hl).extractLsb' 0 4 ++ s.a.extractLsb' 0 4 = BitVec.ofNat 8 (m % 16 * 16 + a % 16) :=
    append_eq_ofNat _ _ (by rw [toNat_low_bits, toNat_low_bits]; rfl)
  have hrm : s.a.extractLsb' 0 4 ++ (s.memRead s.hl).extractLsb' 4 4 = BitVec.ofNat 8 (a % 16 * 16 + m / 16) :=
    append_eq_ofNat _ _ (by rw [toNat_low_bits, toNat_high_bits _ rfl]; rfl)
  refine ⟨?rlca, ?rla, ?rrca, ?rra, ?rld, ?rrd⟩
  case rlca => exact runs_of_rotA shRlc_eq_rlc (decode_of_encode rfl rfl rfl) rfl
  case rla => exact runs_of_rotA shRl_eq_rl (decode_of_encode rfl rfl rfl) rfl
  case rrca => exact runs_of_rotA shRrc_eq_rrc (decode_of_encode rfl rfl rfl) rfl
  case rra => exact runs_of_rotA shRr_eq_rr (decode_of_encode rfl rfl rfl) rfl
  case rld =>
    rw [← hla, ← hlm]
    exact runs_of_memWrite_withCpu (decode_of_encode rfl rfl rfl) (congrArg _ (digit_eq_withCpu (s.fetched _ _ _) _ _))
  case rrd =>
    rw [← hra, ← hrm]
    exact runs_of_memWrite_withCpu (decode_of_encode rfl rfl rfl) (congrArg _ (digit_eq_withCpu (s.fetched _ _ _) _ _))

/-- Settles O21: RLC takes bit 7 of the operand into bit 0, RL the carry. -/
theorem rotatesLeft : Obligations.RotatesLeft := by
  refine ⟨onShift shRlc_eq_rlc ?_ ?_ ?_ ?_, onShift shRl_eq_rl ?_ ?_ ?_ ?_⟩
  all_goals intros; exact ⟨decode_of_encode rfl rfl rfl, fun _ => rfl⟩

/-- Settles O22: RRC takes bit 0 of the operand into bit 7, RR the carry. -/
theorem rotatesRight : Obligations.RotatesRight := by
  refine ⟨onShift shRrc_eq_rrc ?_ ?_ ?_ ?_, onShift shRr_eq_rr ?_ ?_ ?_ ?_⟩
  all_goals intros; exact ⟨decode_of_encode rfl rfl rfl, fun _ => rfl⟩

/-- Settles O23: the freed bit is 0, but after SRA it is bit 7 of the operand. -/
theorem shifts : Obligations.Shifts := by
  refine ⟨onShift shSla_eq_sla ?_ ?_ ?_ ?_, onShift shSra_eq_sra ?_ ?_ ?_ ?_, onShift shSrl_eq_srl ?_ ?_ ?_ ?_⟩
  all_goals intros; exact ⟨decode_of_encode rfl rfl rfl, fun _ => rfl⟩

end Sys2Proof.Machine
end

section
/-! What the forms on the halves of the index registers and the shifts with a copy leave, in the words of the claims
(50_undocumented R573 to R581). -/

namespace Sys2Proof.Claim

open Sys2Proof.Machine

/-- An instruction that is its fetch and an update of registers. -/
theorem FetchThen.runs {bs : List Byte} {i : Instr} {len : Word} {m1 : BitVec 7} {n : Nat} {op : State → State} {g : State → Cpu}
    (h : FetchThen bs i len m1 n op) (hop : ∀ s, op s = withCpu s (g s)) (s : State) :
    Runs bs i s m1 n (g (s.fetched len m1 n)) same :=
  runs_of_withCpu h.decodes ((h.completes s).trans (congrArg _ (hop _)))

/-- An instruction that is its fetch, a store of one byte and an update of registers. -/
theorem FetchThen.runs_storing {bs : List Byte} {i : Instr} {len : Word} {m1 : BitVec 7} {n : Nat} {op : State → State}
    {addr : State → Word} {v : State → Byte} {g : State → Cpu} (h : FetchThen bs i len m1 n op)
    (hop : ∀ s, op s = withCpu (s.memWrite (addr s) (v s)) (g s)) (s : State) :
    Runs bs i s m1 n (g (s.fetched len m1 n)) (stores (addr (s.fetched len m1 n)) (v (s.fetched len m1 n))) :=
  runs_of_memWrite_withCpu h.decodes ((h.completes s).trans (congrArg _ (hop _)))

/-! ### Halves of the index registers -/

/-- Four instructions that apply `f` to A and a half are the forms of the operation `op` that `f` is on the registers. -/
theorem onHalf {y : BitVec 3} {ofXH ofXL ofYH ofYL : Instr} {f : State → Byte → State} {op : Cpu → Byte → Cpu}
    (hf : ∀ s v, f s v = withCpu s (op (cpu s) v))
    (hXH : FetchThen [0xDD, opXYZ 2 y 4] ofXH 2 2 8 fun s => f s (hiByte s.ix))
    (hXL : FetchThen [0xDD, opXYZ 2 y 5] ofXL 2 2 8 fun s => f s (loByte s.ix))
    (hYH : FetchThen [0xFD, opXYZ 2 y 4] ofYH 2 2 8 fun s => f s (hiByte s.iy))
    (hYL : FetchThen [0xFD, opXYZ 2 y 5] ofYL 2 2 8 fun s => f s (loByte s.iy)) : OnHalf y ofXH ofXL ofYH ofYL op := by
  exact fun s => ⟨hXH.runs (hf · _) s, hXL.runs (hf · _) s, hYH.runs (hf · _) s, hYL.runs (hf · _) s⟩

theorem regIX_eq_getIX (s : State) (r : RegXY) : s.regIX r = getIX s r := by cases r <;> rfl

theorem regIY_eq_getIY (s : State) (r : RegXY) : s.regIY r = getIY s r := by cases r <;> rfl

theorem setRegIX_eq_withCpu (s : State) (r : RegXY) (v : Byte) : s.setRegIX r v = withCpu s ((cpu s).putIX r v) := by
  cases r <;> rfl

theorem setRegIY_eq_withCpu (s : State) (r : RegXY) (v : Byte) : s.setRegIY r v = withCpu s ((cpu s).putIY r v) := by
  cases r <;> rfl

section

variable {bs : List Byte} {i : Instr} {s : State} {r : RegXY} {p : Byte × Byte} {v f : Byte}

/-- An instruction that, after its fetch, gives a half of IX the result `v` and F the flags `f`, `p` in the words of the model. -/
theorem runs_of_halfIX (hd : decode bs = .ok (i, [])) (hp : p = (v, f))
    (hx : exec i s = .next ({ s.fetched 2 2 8 with f := p.2 }.setRegIX r p.1)) :
    Runs bs i s 2 8 ({ past s 2 with f := f }.putIX r v) same := by
  subst hp
  exact runs_of_withCpu (len := 2) hd (hx.trans (congrArg _ (setRegIX_eq_withCpu { s.fetched 2 2 8 with f := f } r v)))

/-- The same of a half of IY. -/
theorem runs_of_halfIY (hd : decode bs = .ok (i, [])) (hp : p = (v, f))
    (hx : exec i s = .next ({ s.fetched 2 2 8 with f := p.2 }.setRegIY r p.1)) :
    Runs bs i s 2 8 ({ past s 2 with f := f }.putIY r v) same := by
  subst hp
  exact runs_of_withCpu (len := 2) hd (hx.trans (congrArg _ (setRegIY_eq_withCpu { s.fetched 2 2 8 with f := f } r v)))

end

/-! ### Shifts -/

theorem shSll_eq_sll (v : Byte) (c : Bool) : shSll v c = sll v c.toNat :=
  Prod.ext (append_eq_ofNat _ _ (by rw [toNat_low_bits, BitVec.toNat_ofNat]; omega)) rfl

theorem setReg_eq_withCpu (s : State) (r : Reg8) (v : Byte) : s.setReg r v = withCpu s ((cpu s).put r v) := by
  cases r <;> rfl

theorem shiftMemReg_eq_withCpu {sh : Byte → Bool → Byte × Bool} {sh' : Byte → Nat → Byte × Bool}
    (hsh : ∀ v c, sh v c = sh' v c.toNat) (s : State) (addr : Word) (r : Reg8) :
    s.shiftMemReg sh addr r =
      withCpu (s.memWrite addr (sh' (s.memRead addr) (cpu s).carry).1)
        (((cpu s).shiftFlags (sh' (s.memRead addr) (cpu s).carry)).put r (sh' (s.memRead addr) (cpu s).carry).1) := by
  rw [State.shiftMemReg, hsh, shiftMem_eq_withCpu hsh, setReg_eq_withCpu]
  rfl

/-- Two instructions that shift a memory byte by `sh` and copy the result, a shift that is `sh'` in plain numbers, are the copying forms
of that shift. -/
theorem onShiftCopy {y : BitVec 3} {ofIX ofIY : Byte → Reg8 → Instr} {sh : Byte → Bool → Byte × Bool}
    {sh' : Byte → Nat → Byte × Bool} (hsh : ∀ v c, sh v c = sh' v c.toNat)
    (hIX : ∀ d r, FetchThen [0xDD, 0xCB, d, opXYZ 0 y r.code] (ofIX d r) 4 2 23 fun s => s.shiftMemReg sh (s.addrIX d) r)
    (hIY : ∀ d r, FetchThen [0xFD, 0xCB, d, opXYZ 0 y r.code] (ofIY d r) 4 2 23 fun s => s.shiftMemReg sh (s.addrIY d) r) :
    OnShiftCopy y ofIX ofIY sh' := by
  exact fun s r d => ⟨(hIX d r).runs_storing (shiftMemReg_eq_withCpu hsh · _ r) s,
    (hIY d r).runs_storing (shiftMemReg_eq_withCpu hsh · _ r) s⟩

end Sys2Proof.Claim
end

section
/-! The undocumented forms on the halves of the index registers and the undocumented shifts (50_undocumented R573 to R581): each is its
fetch and the operation of the documented form. -/

namespace Sys2Proof.Machine

open Claim

/-- Settles O14: a half is one more operand of the operations on A. -/
theorem halfIndexArithmetic : Obligations.HalfIndexArithmetic := by
  refine ⟨onHalf addA_eq_withCpu ?_ ?_ ?_ ?_, onHalf adcA_eq_withCpu ?_ ?_ ?_ ?_, onHalf subA_eq_withCpu ?_ ?_ ?_ ?_,
    onHalf sbcA_eq_withCpu ?_ ?_ ?_ ?_, onHalf andA_eq_withCpu ?_ ?_ ?_ ?_, onHalf xorA_eq_withCpu ?_ ?_ ?_ ?_,
    onHalf orA_eq_withCpu ?_ ?_ ?_ ?_, onHalf cpA_eq_withCpu ?_ ?_ ?_ ?_⟩
  all_goals exact ⟨decode_of_encode rfl rfl rfl, fun _ => rfl⟩

/-- Settles O16: INC and DEC of a half write the half and F, a load the half alone. -/
theorem halfIndexLoads : Obligations.HalfIndexLoads := by
  intro s dst src n
  refine ⟨fun hhalf => ⟨?ldIX, ?ldIY⟩, ?ldXH, ?ldXL, ?ldYH, ?ldYL, ?incXH, ?incXL, ?incYH, ?incYL, ?decXH, ?decXL, ?decYH, ?decYL⟩
  case ldIX =>
    rw [← regIX_eq_getIX]
    exact runs_of_withCpu (decode_of_encode rfl hhalf rfl) (congrArg _ (setRegIX_eq_withCpu (s.fetched _ _ _) dst _))
  case ldIY =>
    rw [← regIY_eq_getIY]
    exact runs_of_withCpu (decode_of_encode rfl hhalf rfl) (congrArg _ (setRegIY_eq_withCpu (s.fetched _ _ _) dst _))
  case ldXH | ldXL | ldYH | ldYL => exact runs_of_withCpu (decode_of_encode rfl rfl rfl) rfl
  case incXH | incXL => exact runs_of_halfIX (decode_of_encode rfl rfl rfl) (inc8_eq _ _) rfl
  case incYH | incYL => exact runs_of_halfIY (decode_of_encode rfl rfl rfl) (inc8_eq _ _) rfl
  case decXH | decXL => exact runs_of_halfIX (decode_of_encode rfl rfl rfl) (dec8_eq _ _) rfl
  case decYH | decYL => exact runs_of_halfIY (decode_of_encode rfl rfl rfl) (dec8_eq _ _) rfl

/-- Settles O24: the copy is the result computed, not the byte read back, and so it stands where the store is dropped. -/
theorem undocumentedShifts : Obligations.UndocumentedShifts := by
  refine ⟨onShift shSll_eq_sll ?_ ?_ ?_ ?_, onShiftCopy shRlc_eq_rlc ?_ ?_, onShiftCopy shRrc_eq_rrc ?_ ?_,
    onShiftCopy shRl_eq_rl ?_ ?_, onShiftCopy shRr_eq_rr ?_ ?_, onShiftCopy shSla_eq_sla ?_ ?_, onShiftCopy shSra_eq_sra ?_ ?_,
    onShiftCopy shSll_eq_sll ?_ ?_, onShiftCopy shSrl_eq_srl ?_ ?_⟩
  all_goals intros; exact ⟨decode_of_encode rfl rfl rfl, fun _ => rfl⟩

end Sys2Proof.Machine
end

section
/-! What the bit instructions leave, in the words of the claims: their flags and masks in plain numbers (47_bit R490, R495, R499). -/

namespace Sys2Proof.Claim

open Sys2Proof.Machine

/-! ### Bits in plain numbers -/

theorem bitFlags_eq (b : BitVec 3) (v yx f : Byte) :
    Machine.bitFlags b v yx f =
      bits (decide (b = 7) && v.getLsbD 7) (!v.getLsbD b.toNat) (yx.getLsbD 5) true (yx.getLsbD 3) (!v.getLsbD b.toNat) false
        (f.getLsbD 0) :=
  flagByte_eq_bits ..

theorem bitTest_eq_withCpu (s : State) (b : BitVec 3) (v yx : Byte) :
    s.bitTest b v yx = withCpu s ((cpu s).bitFlags b v yx) := by
  rw [State.bitTest, bitFlags_eq]; rfl

/-- An instruction that, after its fetch, changes registers and counts a free value. -/
theorem takes_of_withCpu_drawn {bs : List Byte} {i : Instr} {s t : State} {len : Word} {m1 : BitVec 7} {n : Nat} {c : Cpu}
    (hd : decode bs = .ok (i, [])) (hx : exec i s = .next t.drawn) (ht : t = withCpu (s.fetched len m1 n) c) :
    Takes bs i s (drew s) m1 n c same := by
  subst ht
  exact ⟨hd, _, hx, rfl, rfl, rfl, ⟨fun _ => rfl, rfl⟩, rfl⟩

theorem setBit_eq_withSet (b : BitVec 3) (v : Byte) : setBit b v = withSet b v := by
  have hmask : bitMask b = BitVec.ofNat 8 (2 ^ b.toNat) := by decide +revert
  rw [setBit, hmask]; rfl

theorem resBit_eq_withReset (b : BitVec 3) (v : Byte) : resBit b v = withReset b v := by
  have hmask : ~~~bitMask b = BitVec.ofNat 8 (255 - 2 ^ b.toNat) := by decide +revert
  rw [resBit, hmask]; rfl

/-! ### The six forms of SET and RES -/

theorem modifyMem_eq_withCpu (s : State) (g : Byte → Byte) (addr : Word) :
    s.modifyMem g addr = withCpu (s.memWrite addr (g (s.memRead addr))) (cpu s) :=
  memWrite_withCpu s (cpu s) addr _

theorem modifyMemReg_eq_withCpu (s : State) (g : Byte → Byte) (addr : Word) (r : Reg8) :
    s.modifyMemReg g addr r =
      withCpu (s.memWrite addr (g (s.memRead addr))) ((cpu s).put r (g (s.memRead addr))) := by
  rw [State.modifyMemReg, modifyMem_eq_withCpu, setReg_eq_withCpu]; rfl

/-- Six instructions that change their operand by `g` are the forms of that change. -/
theorem onBit {x : BitVec 2} {ofR : BitVec 3 → Reg8 → Instr} {ofHL : BitVec 3 → Instr} {ofIX ofIY : BitVec 3 → Byte → Instr}
    {ofIXR ofIYR : BitVec 3 → Byte → Reg8 → Instr} {g : BitVec 3 → Byte → Byte}
    (hR : ∀ b r, FetchThen [0xCB, opXYZ x b r.code] (ofR b r) 2 2 8 fun s => s.setReg r (g b (s.reg r)))
    (hHL : ∀ b, FetchThen [0xCB, opXYZ x b 6] (ofHL b) 2 2 15 fun s => s.modifyMem (g b) s.hl)
    (hIX : ∀ b d, FetchThen [0xDD, 0xCB, d, opXYZ x b 6] (ofIX b d) 4 2 23 fun s => s.modifyMem (g b) (s.addrIX d))
    (hIY : ∀ b d, FetchThen [0xFD, 0xCB, d, opXYZ x b 6] (ofIY b d) 4 2 23 fun s => s.modifyMem (g b) (s.addrIY d))
    (hIXR : ∀ b d r,
      FetchThen [0xDD, 0xCB, d, opXYZ x b r.code] (ofIXR b d r) 4 2 23 fun s => s.modifyMemReg (g b) (s.addrIX d) r)
    (hIYR : ∀ b d r,
      FetchThen [0xFD, 0xCB, d, opXYZ x b r.code] (ofIYR b d r) 4 2 23 fun s => s.modifyMemReg (g b) (s.addrIY d) r) :
    OnBit x ofR ofHL ofIX ofIY ofIXR ofIYR g := by
  intro s b r d
  refine ⟨?r, ?hl, ?ix, ?iy, ?ixr, ?iyr⟩
  case r => exact (hR b r).runs (setReg_eq_withCpu · r _) s
  case hl => exact (hHL b).runs_storing (modifyMem_eq_withCpu · (g b) _) s
  case ix => exact (hIX b d).runs_storing (modifyMem_eq_withCpu · (g b) _) s
  case iy => exact (hIY b d).runs_storing (modifyMem_eq_withCpu · (g b) _) s
  case ixr => exact (hIXR b d r).runs_storing (modifyMemReg_eq_withCpu · (g b) _ r) s
  case iyr => exact (hIYR b d r).runs_storing (modifyMemReg_eq_withCpu · (g b) _ r) s

end Sys2Proof.Claim
end

section
/-! The bit group (47_bit R490 to R502) with its undocumented forms (50_undocumented R582, R583): a test is its fetch and new flags, SET
and RES are their fetch and a change of the operand. -/

namespace Sys2Proof.Machine

open Claim

/-- Settles O25: after `BIT b,(HL)` YF and XF come from a free value, which is counted. -/
theorem bitTests : Obligations.BitTests := by
  intro s b r d ax ay cx cy
  refine ⟨?r, ⟨Config.freeFlags s.draws, ?hl⟩, ?ix, ?iy, ?ixMirror, ?iyMirror⟩
  case r => exact runs_of_withCpu (decode_of_encode rfl rfl rfl) (congrArg _ (bitTest_eq_withCpu (s.fetched _ _ _) b _ _))
  case hl => exact takes_of_withCpu_drawn (decode_of_encode rfl rfl rfl) rfl (bitTest_eq_withCpu (s.fetched 2 2 12) b _ _)
  case ix | iy | ixMirror | iyMirror =>
    exact runs_of_withCpu (decode_of_encode rfl rfl rfl) (congrArg _ (bitTest_eq_withCpu (s.fetched _ _ _) b _ _))

/-- Settles O26: no flag is among what SET and RES write. -/
theorem setAndResetBits : Obligations.SetAndResetBits := by
  have hset : setBit = withSet := funext₂ setBit_eq_withSet
  have hres : resBit = withReset := funext₂ resBit_eq_withReset
  rw [Obligations.SetAndResetBits, ← hset, ← hres]
  refine ⟨onBit ?_ ?_ ?_ ?_ ?_ ?_, onBit ?_ ?_ ?_ ?_ ?_ ?_⟩
  all_goals intros; exact ⟨decode_of_encode rfl rfl rfl, fun _ => rfl⟩

end Sys2Proof.Machine
end

section
/-! What jumps, calls and returns leave, in the words of the claims: a relative jump that may take 5 T more, a push and a new PC, and PC
loaded from the stack (48_control_transfer R510 to R528). -/

namespace Sys2Proof.Claim

open Sys2Proof.Machine

theorem cond_eq_holds (s : State) (cc : Cond) : s.cond cc = holds s.f cc := by cases cc <;> rfl

/-- An absolute jump on a condition is an update of PC (48_control_transfer R512). -/
theorem jumpOn_eq_withCpu (s : State) (cc : Cond) (nn : Word) :
    (if s.cond cc then { s with pc := nn } else s) = withCpu s { cpu s with pc := if holds s.f cc then nn else s.pc } := by
  rw [cond_eq_holds]
  cases holds s.f cc <;> rfl

/-- The time set anew on top of an outcome, `k` T-states after the start. -/
theorem Yields.retime {s t u : State} {m1 : BitVec 7} {n k time : Nat} {c : Cpu} {mem : State → State → Prop}
    (h : Yields (.next t) s u m1 n c mem) (htime : time = s.t + k) (hmem : mem s t → mem s { t with t := time }) :
    Yields (.next { t with t := time }) s u m1 k c mem := by
  obtain ⟨_, ⟨⟩, hcpu, hrefresh, -, hstored, hrest⟩ := h
  exact ⟨_, rfl, hcpu, hrefresh, htime, hmem hstored, hrest.trans rfl⟩

/-! ### Relative jumps -/

/-- A relative jump that may be taken, after its two bytes are fetched in `n` T-states (48_control_transfer R514, R521). -/
theorem yields_jumpIf (s : State) (n : Nat) (taken : Bool) (e : Byte) :
    Yields (.next ((s.fetched 2 1 n).jumpIf taken e)) s s 1 (if taken then n + 5 else n)
      { past s 2 with pc := if taken then s.pc + 2 + e.signExtend 16 else s.pc + 2 } same := by
  cases taken with
  | false => exact yields_fetched s 2 1 n
  | true => exact ((yields_fetched s 2 1 n).withCpu ({ · with pc := s.pc + 2 + e.signExtend 16 }) id).retime rfl id

/-- An instruction that is its fetch and a relative jump on a bit of F jumps on that bit. -/
theorem jumpsOn {op : Byte} {ofE : Byte → Instr} {taken : Byte → Bool}
    (h : ∀ e, FetchThen [op, e] (ofE e) 2 1 7 fun s => s.jumpIf (taken s.f) e) : JumpsOn op ofE taken := by
  intro s e
  refine ⟨(h e).decodes, ?_⟩
  rw [(h e).completes]
  exact yields_jumpIf s 7 (taken s.f) e

/-! ### Calls and returns -/

/-- A call pushes PC as the fetch leaves it (48_control_transfer R522). -/
theorem yields_call (s : State) (len : Word) (m1 : BitVec 7) (n : Nat) (target : Word) :
    Yields (.next ((s.fetched len m1 n).call target)) s s m1 n { cpu s with sp := s.sp - 2, pc := target }
      (storesWord (s.sp - 2) (s.pc + len)) := by
  have hpush : Yields (.next ((s.fetched len m1 n).push16 (s.pc + len))) s s m1 n { past s len with sp := s.sp - 2 }
      (storesWord (s.sp - 2) (s.pc + len)) :=
    ⟨_, rfl, cpu_push16 _ _, State.push16_rLo _ _, State.push16_t _ _, storesWord_push16 (s.fetched len m1 n) _,
      (elsewhere_fetched s len m1 n).trans (elsewhere_push16 _ _)⟩
  exact hpush.withCpu ({ · with pc := target }) id

theorem yields_popPC (s : State) (len : Word) (m1 : BitVec 7) (n : Nat) :
    Yields (.next (s.fetched len m1 n).popPC) s s m1 n { cpu s with sp := s.sp + 2, pc := wordAt s s.sp } same :=
  ⟨_, rfl, rfl, rfl, rfl, ⟨fun _ => rfl, rfl⟩, rfl⟩

/-- An instruction that, after its fetch, returns from an interrupt: IFF2 is copied to IFF1 (48_control_transfer R526). -/
theorem takes_of_returnInt {bs : List Byte} {i : Instr} {s : State} (hd : decode bs = .ok (i, []))
    (hx : exec i s = .next (s.fetched 2 2 14).returnInt) :
    Takes bs i s { s with iff1 := s.iff2 } 2 14 { cpu s with sp := s.sp + 2, pc := wordAt s s.sp } same := by
  obtain ⟨_, ⟨⟩, hcpu, hrefresh, htime, hsame, -⟩ := yields_popPC s 2 2 14
  exact ⟨hd, _, hx, hcpu, hrefresh, htime, hsame, rfl⟩

/-- The address of a restart is eight times its code (48_control_transfer R528). -/
theorem restart_address (p : BitVec 3) : 0#10 ++ p ++ 0#3 = BitVec.ofNat 16 (8 * p.toNat) := by decide +revert

end Sys2Proof.Claim
end

section
/-! The jump, call and return group (48_control_transfer R510 to R528) with the mirrors of RETN (50_undocumented R587). -/

namespace Sys2Proof.Machine

open Claim

/-- Settles O27: a condition is a bit of F, and the new B of DJNZ is 0 where the old one is 1. -/
theorem jumps : Obligations.Jumps := by
  refine ⟨fun s cc nn e => ⟨?jp, ?jpCc, ?jr, ?jpHL, ?jpIX, ?jpIY, ?djnz⟩, ?c, ?nc, ?z, ?nz⟩
  case jp | jr | jpHL | jpIX | jpIY => exact runs_of_withCpu (decode_of_encode rfl rfl rfl) rfl
  case jpCc =>
    exact runs_of_withCpu (decode_of_encode rfl rfl rfl) (congrArg _ (jumpOn_eq_withCpu (s.fetched _ _ _) cc nn))
  case djnz =>
    have htaken : (s.b - 1 != 0) = true ↔ s.b ≠ 1 := by rw [bne_iff_ne, ne_eq, sub_eq_zero]
    have hjump := yields_jumpIf { s with b := s.b - 1 } 8 (s.b - 1 != 0) e
    simp only [htaken, ne_eq, ite_not] at hjump
    exact ⟨decode_of_encode rfl rfl rfl, hjump⟩
  case c | nc | z | nz => exact jumpsOn fun e => ⟨decode_of_encode rfl rfl rfl, fun _ => rfl⟩

/-- Settles O28: a call that is taken and a return that is taken are the plain ones with their extra time. -/
theorem callsAndReturns : Obligations.CallsAndReturns := by
  intro s cc nn p k back u
  refine ⟨?call, ?cond, ?ret, ?reti, ?retn, fun ⟨h0, h1⟩ => ?retnMirror, ?rst⟩
  case call => exact ⟨decode_of_encode rfl rfl rfl, yields_call s 3 1 17 nn⟩
  case cond =>
    rw [← cond_eq_holds]
    split
    case isTrue hc =>
      have hcall : exec (.callCcNn cc nn) s = .next { (s.fetched 3 1 10).call nn with t := s.t + 10 + 7 } :=
        congrArg _ (if_pos hc)
      have hret : exec (.retCc cc) s = .next { (s.fetched 1 1 5).popPC with t := s.t + 5 + 6 } := congrArg _ (if_pos hc)
      refine ⟨⟨decode_of_encode rfl rfl rfl, ?_⟩, decode_of_encode rfl rfl rfl, ?_⟩
      · rw [hcall]
        exact (yields_call s 3 1 10 nn).retime rfl id
      · rw [hret]
        exact (yields_popPC s 1 1 5).retime rfl id
    case isFalse hc =>
      exact ⟨runs_of_withCpu (len := 3) (decode_of_encode rfl rfl rfl) (congrArg _ (if_neg hc)),
        runs_of_withCpu (len := 1) (decode_of_encode rfl rfl rfl) (congrArg _ (if_neg hc))⟩
  case ret => exact runs_of_withCpu (decode_of_encode rfl rfl rfl) rfl
  case reti | retn => exact takes_of_returnInt (decode_of_encode rfl rfl rfl) rfl
  case retnMirror =>
    have hwf : (k != 0 && k != 1) = true := by rw [Bool.and_eq_true, bne_iff_ne, bne_iff_ne]; exact ⟨h0, h1⟩
    exact takes_of_returnInt (decode_of_encode rfl hwf rfl) rfl
  case rst =>
    rw [← restart_address]
    exact ⟨decode_of_encode rfl rfl rfl, yields_call s 1 1 11 _⟩

end Sys2Proof.Machine
end

section
/-! What an access to a port leaves, in the words of the claims: the devices as the port leaves them part-way through the instruction,
and on top of it registers, a store and the count of free values (20_memory R139, 49_io R540). -/

namespace Sys2Proof.Claim

open Sys2Proof.Machine

/-! ### One access -/

/-- A port read `k` T-states into an instruction of `n` T-states (20_memory R139). -/
theorem yields_portReadAt (s : State) (len : Word) (m1 : BitVec 7) (p : Word) (k n : Nat) :
    Yields (.next ((s.fetched len m1 0).portReadAt p k n).2) s (afterRead s ((sampled s len m1 k).portRead p).2) m1 n (past s len)
      same := by
  rw [State.portReadAt_eq]
  exact ⟨_, rfl, rfl, rfl, rfl, ⟨fun _ => rfl, rfl⟩, rfl⟩

/-- A port write `k` T-states into an instruction of `n` T-states: RAM stays, what an address reads may not (20_memory R139). -/
theorem yields_portWriteAt (s : State) (len : Word) (m1 : BitVec 7) (p : Word) (v : Byte) (k n : Nat) :
    Yields (.next ((s.fetched len m1 0).portWriteAt p v k n)) s (afterWrite s ((sampled s len m1 k).portWrite p v)) m1 n
      (past s len) cells := by
  rw [State.portWriteAt_eq]
  exact ⟨_, rfl, rfl, rfl, rfl, rfl, rfl⟩

/-- An instruction that, after its fetch, reads a port and changes registers with the byte read. -/
theorem takes_of_portRead (g : Cpu → Byte → Cpu) {bs : List Byte} {i : Instr} {s : State} {len : Word} {m1 : BitVec 7} {k n : Nat}
    {p : Word} {r : Byte × State} (hd : decode bs = .ok (i, [])) (hr : r = (s.fetched len m1 0).portReadAt p k n)
    (hx : exec i s = .next (withCpu r.2 (g (cpu r.2) r.1))) :
    let x := (sampled s len m1 k).portRead p
    Takes bs i s (afterRead s x.2) m1 n (g (past s len) x.1) same := by
  subst hr
  refine ⟨hd, ?_⟩
  rw [hx]
  exact (yields_portReadAt s len m1 p k n).withCpu (g · _) id

theorem parityFlags_eq_withCpu (s : State) (v : Byte) :
    { s with f := Machine.parityFlags v s.f } = withCpu s ((cpu s).parityFlags v) := by
  rw [parityFlags_eq]; rfl

theorem parityFlags_setReg_eq_withCpu (s : State) (r : Reg8) (v : Byte) :
    { s with f := Machine.parityFlags v s.f }.setReg r v = withCpu s (((cpu s).parityFlags v).put r v) := by
  rw [parityFlags_eq_withCpu, setReg_eq_withCpu]; rfl

/-! ### What comes on top of an access -/

section

variable {s t u : State} {m1 : BitVec 7} {n : Nat} {c : Cpu} {mem : State → State → Prop}

/-- A store on top of an outcome that leaves memory and paging alone. -/
theorem Yields.stored (h : Yields (.next t) s u m1 n c same) (hplace : ∀ x, t.place x = s.place x) (addr : Word) (v : Byte) :
    Yields (.next (t.memWrite addr v)) s u m1 n c (stores addr v) := by
  obtain ⟨_, ⟨⟩, hcpu, hrefresh, htime, ⟨hread, hram⟩, hrest⟩ := h
  refine ⟨_, rfl, (cpu_memWrite t addr v).trans hcpu, (t.memWrite_rLo addr v).trans hrefresh, (t.memWrite_t addr v).trans htime,
    ⟨fun x => ?read, fun k => ?cell⟩, hrest.trans (elsewhere_memWrite t addr v)⟩
  case read => rw [State.memRead_memWrite, hplace, hplace, hread]
  case cell => rw [State.cellGet_memWrite_ram, hplace, hram]

/-- A free value counted on top of an outcome. -/
theorem Yields.drawn (h : Yields (.next t) s u m1 n c mem) (hmem : mem s t → mem s t.drawn) :
    Yields (.next t.drawn) s (drew u) m1 n c mem := by
  obtain ⟨_, ⟨⟩, hcpu, hrefresh, htime, hstored, hrest⟩ := h
  exact ⟨_, rfl, hcpu, hrefresh, htime, hmem hstored, (congrArg State.drawn hrest).trans rfl⟩

theorem Yields.b_eq (h : Yields (.next t) s u m1 n c mem) : t.b = c.b := by
  obtain ⟨_, ⟨⟩, hcpu, -⟩ := h
  exact congrArg Cpu.b hcpu

end

/-! ### One turn of a block input or output -/

theorem blockFlags_blockIoFlags (free b : Byte) : blockFlags (blockIoFlags free b) b := by
  have hbits : ∀ sf zf yf hf xf pf nf cf : Bool, (flagByte sf zf yf hf xf pf nf cf).getLsbD 6 = zf ∧
      (flagByte sf zf yf hf xf pf nf cf).getLsbD 1 = nf := by decide
  exact hbits ..

theorem cells_repeatBlock {s t : State} (again : Bool) (h : cells s t) : cells s (t.repeatBlock again) := by
  cases again <;> exact h

/-- The registers at the end of a turn of a block input or output, once B is counted down: HL moved by `by1`, the flags from B and the
free value `free` (49_io R540). -/
def blockIoEnd (by1 : Word) (free : Byte) (c : Cpu) : Cpu := { c.putHL (mkWord c.h c.l + by1) with f := blockIoFlags free c.b }

/-- A block input is a port read, a store and registers. -/
theorem blockIn_eq_withCpu (s : State) (by1 : Word) :
    let r := s.portReadAt s.bc ioDelayBlockIn 16
    let t := r.2.memWrite s.hl r.1
    s.blockIn by1 = (withCpu t (blockIoEnd by1 (Config.freeFlags t.draws) { cpu t with b := t.b - 1 })).drawn := by
  intro r t
  have hhl : r.2.hl = s.hl := by simp only [r, State.portReadAt_eq]; rfl
  rw [State.blockIn, hhl]
  rfl

/-- A block output is, after B is counted down, a port write and registers. -/
theorem blockOut_eq_withCpu (s : State) (by1 : Word) :
    let t := { s with b := s.b - 1 }.portWriteAt (mkWord (s.b - 1) s.c) (s.memRead s.hl) ioDelayBlockOut 16
    s.blockOut by1 = (withCpu t (blockIoEnd by1 (Config.freeFlags t.draws) (cpu t))).drawn := rfl

theorem portReadAt_place (s : State) (p : Word) (k n : Nat) (x : Word) : (s.portReadAt p k n).2.place x = s.place x := by
  rw [State.portReadAt_eq]; rfl

/-- A turn of a block input without its repeat: the flags are those of some free value (49_io R543, R545). -/
theorem yields_blockIn (s : State) (by1 : Word) :
    let r := (sampled s 2 2 9).portRead s.bc
    ∃ free, Yields (.next ((s.fetched 2 2 0).blockIn by1)) s (drew (afterRead s r.2)) 2 16
      (blockIoEnd by1 free { past s 2 with b := s.b - 1 }) (stores s.hl r.1) := by
  intro r
  have hstored := (yields_portReadAt s 2 2 s.bc ioDelayBlockIn 16).stored (portReadAt_place (s.fetched 2 2 0) _ _ _) s.hl r.1
  rw [blockIn_eq_withCpu]
  exact ⟨_, (hstored.withCpu (fun c => blockIoEnd by1 _ { c with b := c.b - 1 }) id).drawn id⟩

/-- A turn of a block output without its repeat: the flags are those of some free value (49_io R549, R551). -/
theorem yields_blockOut (s : State) (by1 : Word) :
    let u := { sampled s 2 2 12 with b := s.b - 1 }.portWrite (mkWord (s.b - 1) s.c) (s.memRead s.hl)
    ∃ free, Yields (.next ((s.fetched 2 2 0).blockOut by1)) s (drew (afterWrite s u)) 2 16
      (blockIoEnd by1 free { past s 2 with b := s.b - 1 }) cells := by
  intro u
  rw [blockOut_eq_withCpu]
  exact ⟨_, ((yields_portWriteAt { s with b := s.b - 1 } 2 2 _ _ ioDelayBlockOut 16).withCpu (blockIoEnd by1 _) id).drawn id⟩

/-- The repeat of a block input or output goes back over the instruction where B is not 0 (49_io R544, R550). -/
theorem Yields.repeatIo {s t u : State} {by1 : Word} {free : Byte} {mem : State → State → Prop} (rep : Bool)
    (h : Yields (.next t) s u 2 16 (blockIoEnd by1 free { past s 2 with b := s.b - 1 }) mem)
    (hmem : ∀ again, mem s t → mem s (t.repeatBlock again)) :
    let again := rep && decide (s.b - 1 ≠ 0)
    ∃ f, blockFlags f (s.b - 1) ∧
      Yields (.next (t.repeatBlock (rep && t.b != 0))) s u 2 (if again then 21 else 16)
        { (past s 2).putHL (s.hl + by1) with b := s.b - 1, f := f, pc := if again then s.pc else s.pc + 2 } mem := by
  intro again
  have hne : (s.b - 1 != 0) = decide (s.b - 1 ≠ 0) := by rw [decide_not]; rfl
  have hagain : (rep && t.b != 0) = again := by rw [h.b_eq]; exact congrArg (rep && ·) hne
  have hback : (if again then s.pc + 2 - 2 else s.pc + 2) = if again then s.pc else s.pc + 2 := by rw [BitVec.add_sub_cancel]
  refine ⟨blockIoFlags free (s.b - 1), blockFlags_blockIoFlags _ _, ?_⟩
  rw [hagain, ← hback]
  exact h.repeatBlock (hmem _)

theorem blockReads {op : Byte} {i : Instr} {by1 : Word} {rep : Bool}
    (h : FetchThen [0xED, op] i 2 2 0 fun s => (s.blockIn by1).repeatBlock (rep && (s.blockIn by1).b != 0)) :
    BlockReads op i by1 rep := by
  intro s r b again
  obtain ⟨free, hturn⟩ := yields_blockIn s by1
  obtain ⟨f, hf, hrep⟩ := hturn.repeatIo rep stores_repeatBlock
  exact ⟨f, hf, h.decodes, by rw [h.completes]; exact hrep⟩

theorem blockWrites {op : Byte} {i : Instr} {by1 : Word} {rep : Bool}
    (h : FetchThen [0xED, op] i 2 2 0 fun s => (s.blockOut by1).repeatBlock (rep && (s.blockOut by1).b != 0)) :
    BlockWrites op i by1 rep := by
  intro s b u again
  obtain ⟨free, hturn⟩ := yields_blockOut s by1
  obtain ⟨f, hf, hrep⟩ := hturn.repeatIo rep cells_repeatBlock
  exact ⟨f, hf, h.decodes, by rw [h.completes]; exact hrep⟩

end Sys2Proof.Claim
end

section
/-! The input and output group (49_io R540 to R552) with its undocumented forms (50_undocumented R584, R585): the port is accessed
part-way through the instruction, and the registers come on top. -/

namespace Sys2Proof.Machine

open Claim

/-- Settles O29: an input changes registers after its access, an output is its access. -/
theorem portInputAndOutput : Obligations.PortInputAndOutput := by
  intro s r n x y w z
  refine ⟨?inA, ?inR, ?inC, ?outA, ?outR, ?out0⟩
  case inA => exact takes_of_portRead ({ · with a := · }) (decode_of_encode rfl rfl rfl) rfl rfl
  case inR =>
    exact takes_of_portRead (fun c v => (c.parityFlags v).put r v) (decode_of_encode rfl rfl rfl) rfl
      (congrArg _ (parityFlags_setReg_eq_withCpu _ r _))
  case inC =>
    exact takes_of_portRead Cpu.parityFlags (decode_of_encode rfl rfl rfl) rfl (congrArg _ (parityFlags_eq_withCpu _ _))
  case outA => exact ⟨decode_of_encode rfl rfl rfl, yields_portWriteAt s 2 1 _ _ ioDelayImm 11⟩
  case outR | out0 => exact ⟨decode_of_encode rfl rfl rfl, yields_portWriteAt s 2 2 _ _ ioDelayC 12⟩

/-- Settles O30: each is one turn and its repeat, which the single forms never take. -/
theorem blockInputAndOutput : Obligations.BlockInputAndOutput := by
  refine ⟨blockReads ?_, blockReads ?_, blockReads ?_, blockReads ?_, blockWrites ?_, blockWrites ?_, blockWrites ?_, blockWrites ?_⟩
  all_goals exact ⟨decode_of_encode rfl rfl rfl, fun _ => rfl⟩

end Sys2Proof.Machine
end

section
/-! The DD and FD bytes that change no instruction (50_undocumented R571, R572): passed over, or overridden by the prefix after them. -/

namespace Sys2Proof.Machine

open Claim

/-- Behind a DD or FD byte that it ignores, an instruction completes as it does alone after one more fetch. -/
theorem passPrefix_eq {i : Instr} (h : i.passable = true) (s : State) :
    ∃ t, exec i (s.fetched 1 1 4) = .next t ∧ passPrefix i s = .next t := by
  obtain ⟨t, ht⟩ := passPrefix_completes h s
  exact ⟨t, (passPrefix_next ht).2, ht⟩

/-- Settles O31: what runs behind a passed-over prefix is the instruction itself, one fetch later. -/
theorem prefixes : Obligations.Prefixes := by
  intro s i next rest u
  refine ⟨fun hi => ⟨?dd, ?fd, ?runs⟩, fun hnext => ?overridden, rfl, rfl⟩
  case dd | fd => exact decode_of_encode rfl hi rfl
  case runs =>
    obtain ⟨t, hplain, hpass⟩ := passPrefix_eq hi s
    exact ⟨t, hplain, hpass, hpass⟩
  case overridden =>
    obtain rfl | rfl | rfl := hnext
    all_goals exact ⟨decodeInvertsEncode .ddOverride (_ :: rest) rfl rfl, decodeInvertsEncode .fdOverride (_ :: rest) rfl rfl⟩

end Sys2Proof.Machine
end

section
/-! Interrupts, the boundary and the steps that complete (60_exceptions R830, R840 to R847, R860 to R862). -/

namespace Sys2Proof.Machine

open Claim

/-! ### Acceptance (60_exceptions R840) -/

theorem State.acceptsInt_iff (s : State) :
    s.acceptsInt = true ↔
      s.iff1 = true ∧ s.cfg.intPos ≤ s.t ∧ s.t < s.cfg.intPos + s.cfg.intLen ∧ (s.t : Int) ≠ s.eiPos ∧ s.t + 10 < s.cfg.tpi := by
  simp only [State.acceptsInt, Bool.and_eq_true, decide_eq_true_eq, and_assoc]

/-- Where `ei_pos` is the present time, the interrupt is held off. -/
theorem State.acceptsInt_of_eiPos {s : State} (h : s.eiPos = (s.t : Int)) : s.acceptsInt = false := by
  rw [← Bool.not_eq_true, s.acceptsInt_iff]
  exact fun ⟨_, _, _, hne, _⟩ => hne h.symm

theorem execPart_of_acceptsInt {s : State} (ha : s.acceptsInt = true) : execPart s = s.enterInt := by
  rw [execPart, if_pos ha]

/-- Settles O45: EI and an overridden prefix leave `ei_pos` at the time after them. -/
theorem interruptAcceptance : Obligations.InterruptAcceptance := by
  intro s t
  refine ⟨s.acceptsInt_iff, fun ha => by rw [step, execPart_of_acceptsInt ha], fun h => State.acceptsInt_of_eiPos ?_⟩
  obtain h | h | h := h
  all_goals obtain rfl := Host.Outcome.next.inj h; rfl

/-! ### Entry (60_exceptions R843 to R847) -/

/-- What the modes have in common: the CPU resumed, the flip-flops cleared, one fetch counted and PC pushed. -/
theorem State.yields_intCommon_push16 (s : State) :
    Yields (.next (s.intCommon.push16 s.pc)) s { s with halted := false, iff1 := false, iff2 := false } 1 0
      { cpu s with sp := s.sp - 2 } (storesWord (s.sp - 2) s.pc) :=
  ⟨_, rfl, cpu_push16 s.intCommon _, State.push16_rLo s.intCommon _, State.push16_t s.intCommon _,
    storesWord_push16 s.intCommon _, Elsewhere.trans (s := s.intCommon) rfl (elsewhere_push16 _ _)⟩

/-- Entry with PC given the value `target` at `time`. -/
theorem State.yields_entry (s : State) {n time : Nat} (target : Word) (htime : time = (s.intCommon.push16 s.pc).t + n) :
    Yields (.next { s.intCommon.push16 s.pc with pc := target, t := time }) s
      { s with halted := false, iff1 := false, iff2 := false } 1 n { cpu s with sp := s.sp - 2, pc := target }
      (storesWord (s.sp - 2) s.pc) := by
  rw [State.push16_t] at htime
  exact (s.yields_intCommon_push16.withCpu ({ · with pc := target }) id).retime htime id

/-- A byte with zeros above it is its number. -/
theorem mkWord_zero_eq_ofNat (v : Byte) : mkWord 0 v = BitVec.ofNat 16 v.toNat := by
  apply BitVec.eq_of_toNat_eq
  rw [mkWord_toNat, BitVec.toNat_ofNat]
  have := v.isLt
  simp; omega

theorem State.enterInt_of_restart {s : State} (him : s.im = .im0) (hbus : s.cfg.intBusByte &&& 0xC7 = 0xC7) :
    s.enterInt = .next (s.intRestart (mkWord 0 (s.cfg.intBusByte &&& 0x38))) := by
  rw [State.enterInt, him]
  exact if_pos hbus

/-- Settles O46: the vector of mode 2 is read from the memory that the push left. -/
theorem interruptEntry : Obligations.InterruptEntry := by
  intro s u bus c
  split
  case h_1 him =>
    intro hbus
    rw [State.enterInt_of_restart him hbus, ← mkWord_zero_eq_ofNat]
    exact s.yields_entry _ rfl
  case h_2 him =>
    rw [State.enterInt, him]
    exact s.yields_entry _ rfl
  case h_3 him =>
    rw [State.enterInt, him]
    have hvector : (s.intCommon.push16 s.pc).i = s.i ∧ (s.intCommon.push16 s.pc).cfg = s.cfg :=
      ⟨State.push16_i _ _, State.push16_cfg _ _⟩
    obtain ⟨t, ht, hcpu, hrest⟩ := s.yields_entry (State.memRead16 (s.intCommon.push16 s.pc) (mkWord s.i bus)) (n := 19) rfl
    obtain rfl := Host.Outcome.next.inj ht
    refine ⟨_, ?_, hcpu, hrest⟩
    rw [← hvector.1, show bus = (s.intCommon.push16 s.pc).cfg.intBusByte by rw [hvector.2]]
    rfl

/-- Settles O47, from the one branch of the entry that refuses. -/
theorem otherBusBytesRefused : Obligations.OtherBusBytesRefused := by
  intro s him hbus
  rw [State.enterInt, him]
  exact if_neg hbus

/-! ### Steps that complete (60_exceptions R830) -/

theorem State.enterInt_completes {s : State} (h : s.im = .im0 → s.cfg.intBusByte &&& 0xC7 = 0xC7) : Completes s.enterInt := by
  cases him : s.im with
  | im0 => exact ⟨_, State.enterInt_of_restart him (h him)⟩
  | im1 | im2 => exact ⟨_, by rw [State.enterInt, him]⟩

theorem State.fetchInstr_wf (s : State) : s.fetchInstr.wf = true := (decode4_readFrom _ _ _ _).2

theorem execPart_completes {s : State} (h : s.im = .im0 → s.cfg.intBusByte &&& 0xC7 = 0xC7) : Completes (execPart s) := by
  rw [execPart]
  split
  case isTrue => exact State.enterInt_completes h
  case isFalse =>
    split
    case isTrue => exact ⟨_, rfl⟩
    case isFalse => exact exec_completes s.dosUpdate.fetchInstr_wf _

/-- Settles O44: the exec part completes and issues no request, and a quiet boundary completes. -/
theorem stepCompletes : Obligations.StepCompletes := by
  intro s hq
  refine ⟨boundary_of_quiet hq, fun hbus => ?_⟩
  obtain ⟨u, hu⟩ := execPart_completes hbus
  have huq : u.Quiet := (execPart_kept hu).requests.trans hq
  exact ⟨u.hook.wrapFrames, by rw [step, hu, andThen, boundary_of_quiet huq]⟩

/-! ### The frame wrap (60_exceptions R862) -/

/-- Time moved from `t` to `T_total` is the same time. -/
theorem later_later_of_add {total : Time} {m n t : Nat} (h : m + n = t) : later (later total m) n = later total t := by
  rw [later_later, h]

/-- Settles O49: the whole frames and the rest of `t` are `t`. -/
theorem frameWrap : Obligations.FrameWrap := by
  intro s hf k
  refine ⟨fun hle => ⟨rfl, later_later_of_add (Nat.add_sub_of_le hle)⟩, s.wrapFrames_eq, ?_⟩
  rw [s.wrapFrames_eq]
  exact later_later_of_add (Nat.div_add_mod' s.t s.cfg.frameLen)

end Sys2Proof.Machine
end

section
/-! Playing the tape: what one edge does and that the loop of `tape_bit()` catches up (51_tape R660). -/

namespace Sys2Proof.Machine

/-! ### One turn of the loop -/

theorem Tape.edges_of_stopped {tp : Tape} (h : tp.playPtr = none) (n : Nat) (now : Time) : tp.edges n now = tp := by
  cases n with
  | zero => rfl
  | succ n => simp only [Tape.edges, h]

theorem Tape.edges_of_ahead {tp : Tape} {now : Time} (h : now < tp.edgeChange) (n : Nat) : tp.edges n now = tp := by
  cases n with
  | zero => rfl
  | succ n => cases hp : tp.playPtr <;> simp only [Tape.edges, hp, if_pos h]

/-- The tape after an edge at position `p` that is not its last: the level toggled, the position past the pulse taken, and the next edge
that pulse later. -/
def Tape.turned (tp : Tape) (p : Nat) : Tape :=
  { tp with
    bit := tp.bit ^^^ 0xFF
    playPtr := some (p + 1)
    edgeChange := tp.edgeChange + (tp.pulseAt p).setWidth 64 }

/-- The tape after an edge at which it stops, at position `p`. -/
def Tape.halted (tp : Tape) (p : Nat) : Tape := { tp with bit := tp.bit ^^^ 0xFF, playPtr := none, resumePtr := p }

theorem Tape.edges_turn {tp : Tape} {p : Nat} {now : Time} (hp : tp.playPtr = some p) (hdue : tp.edgeChange ≤ now) (n : Nat) :
    tp.edges (n + 1) now =
      if tp.image.length ≤ p then tp.halted p
      else if tp.pulseAt p = 0xFFFFFFFF ∨ p + 1 = tp.image.length then tp.halted (p + 1)
      else (tp.turned p).edges n now := by
  have hnext : later tp.edgeChange (tp.pulseAt p).toNat = tp.edgeChange + (tp.pulseAt p).setWidth 64 := by
    rw [later, BitVec.ofNat_toNat]
  simp only [Tape.edges, hp, if_neg (BitVec.not_lt.mpr hdue), Tape.stop, Bool.or_eq_true, decide_eq_true_eq, hnext]
  rfl

/-! ### Catching up -/

/-- The tape is stopped, or its next edge lies ahead of `now`. -/
def Tape.CaughtUp (tp : Tape) (now : Time) : Prop := tp.playPtr = none ∨ now < tp.edgeChange

theorem Tape.CaughtUp.edges_eq {tp : Tape} {now : Time} (h : tp.CaughtUp now) (n : Nat) : tp.edges n now = tp :=
  h.elim (Tape.edges_of_stopped · n now) (Tape.edges_of_ahead · n)

/-- `n` turns are enough: at least one, and as many as lead past the end of the tape. -/
def Tape.Enough (tp : Tape) (n : Nat) : Prop := ∀ p, tp.playPtr = some p → 0 < n ∧ tp.image.length < p + n

theorem Tape.Enough.turned {tp : Tape} {n p : Nat} (h : tp.Enough (n + 1)) (hp : tp.playPtr = some p)
    (hend : ¬tp.image.length ≤ p) : (tp.turned p).Enough n := by
  rintro _ ⟨⟩
  have hlen := (h p hp).2
  have himage : (tp.turned p).image = tp.image := rfl
  rw [himage]
  omega

theorem Tape.Enough.stopped {tp : Tape} (h : tp.Enough 0) : tp.playPtr = none :=
  Option.eq_none_iff_forall_ne_some.mpr fun p hp => Nat.lt_irrefl 0 (h p hp).1

theorem Tape.halted_caughtUp (tp : Tape) (p : Nat) (now : Time) : (tp.halted p).CaughtUp now := .inl rfl

/-- With enough turns the loop ends with the tape caught up, and one turn more changes nothing. -/
theorem Tape.edges_caughtUp {tp : Tape} {n : Nat} (h : tp.Enough n) (now : Time) :
    (tp.edges n now).CaughtUp now ∧ tp.edges (n + 1) now = tp.edges n now := by
  induction n generalizing tp with
  | zero =>
    have hidle : tp.CaughtUp now := .inl h.stopped
    exact ⟨hidle, hidle.edges_eq 1⟩
  | succ n ih =>
    by_cases hidle : tp.CaughtUp now
    case pos => rw [hidle.edges_eq, hidle.edges_eq]; exact ⟨hidle, rfl⟩
    case neg =>
      obtain ⟨hplaying, hdue⟩ := not_or.mp hidle
      obtain ⟨p, hp⟩ := Option.ne_none_iff_exists'.mp hplaying
      have hturn := Tape.edges_turn hp (BitVec.not_lt.mp hdue)
      rw [hturn, hturn]
      split_ifs with hend hlast
      · exact ⟨tp.halted_caughtUp _ now, rfl⟩
      · exact ⟨tp.halted_caughtUp _ now, rfl⟩
      · exact ih (h.turned hp hend)

/-- Settles O55: the turns `tape_bit()` has are enough before the first of them and after it. -/
theorem tapeBitCatchesUp : Obligations.TapeBitCatchesUp := by
  intro s tp
  have henough : ∀ tq : Tape, tq.Enough (tq.image.length + 1) := fun tq p _ => ⟨Nat.succ_pos _, by omega⟩
  have hidle : tp.CaughtUp s.now → s.tapeBit.2 = s := fun h => by rw [State.tapeBit, h.edges_eq]
  refine ⟨rfl, rfl, (Tape.edges_caughtUp (henough tp) s.now).1, fun h => hidle (.inl h), fun h => hidle (.inr h), ?_⟩
  intro p hp hdue pulse flipped
  have hturn := Tape.edges_turn hp hdue tp.image.length
  refine ⟨fun d hd => by simp only [pulse, Tape.pulseAt, hd], ?_⟩
  split_ifs with hend hlast
  · exact hturn.trans (if_pos hend)
  · exact hturn.trans ((if_neg hend).trans (if_pos hlast))
  · have hnext := hturn.trans ((if_neg hend).trans (if_neg hlast))
    have hsame := (Tape.edges_caughtUp ((henough tp).turned hp hend) s.now).2
    have htape : tp.edges (tp.image.length + 1) s.now = (tp.turned p).edges (tp.image.length + 1) s.now := hnext.trans hsame.symm
    rw [State.tapeBit, htape]
    rfl

end Sys2Proof.Machine
end

section
/-! Reading bytes back from pulses, and TAP files: the cut of a file into blocks, the Pulse Store built from them and the file encoded
from it (51_tape R640 to R652, R670 to R672). -/

namespace Sys2Proof.Machine

/-! ### Bytes from pulses (51_tape R670, R672) -/

theorem Tape.takePulse_of_playing {tp : Tape} {p : Nat} (hp : tp.playPtr = some p) (hlt : p < tp.image.length)
    (hd : tp.pulseAt p ≠ sentinel) : tp.takePulse = (some (tp.pulseAt p).toNat, { tp with playPtr := some (p + 1) }) := by
  simp only [Tape.takePulse, hp, if_neg (Nat.not_le.mpr hlt), if_neg hd]

/-- The pulse that a loader writes twice for a bit (51_tape R650). -/
def bitPulse (b : Bool) : BitVec 32 := if b then 1710 else 855

/-- The mask that `decode_byte()` has for bit `k` (51_tape R672). -/
def bitWeight (k : Nat) : Byte := 1 <<< k

/-- The pulses of the bits `ks` of a byte, two for each. -/
def bitsPulses (v : Byte) (ks : List Nat) : List (BitVec 32) := ks.flatMap fun k => List.replicate 2 (bitPulse (v.getLsbD k))

/-- The byte `acc` with the bits `ks` of `v` set in it where `v` has them. -/
def gatherBits (v : Byte) (ks : List Nat) (acc : Byte) : Byte :=
  ks.foldl (fun a k => if v.getLsbD k then a ||| bitWeight k else a) acc

theorem bitPulse_ne_sentinel (b : Bool) : bitPulse b ≠ sentinel := by cases b <;> decide

theorem bitPulse_long (b : Bool) : 1240 < (bitPulse b).toNat ↔ b = true := by cases b <;> decide

/-- The bits whose pulses come next are read into the accumulator. -/
theorem Tape.decodeBits_of_pulses (v : Byte) (ks : List Nat) (acc : Byte) {tp : Tape} {p : Nat} (hp : tp.playPtr = some p)
    (hlen : p + 2 * ks.length ≤ tp.image.length)
    (hpulses : ∀ j, j < 2 * ks.length → tp.pulseAt (p + j) = (bitsPulses v ks).getD j 0) :
    tp.decodeBits (ks.map bitWeight) acc =
      (some (gatherBits v ks acc), { tp with playPtr := some (p + 2 * ks.length) }) := by
  induction ks generalizing acc tp p with
  | nil =>
    obtain ⟨⟩ := tp
    obtain rfl : _ = some p := hp
    rfl
  | cons k ks ih =>
    rw [List.length_cons] at hlen hpulses
    have h0 : tp.pulseAt p = bitPulse (v.getLsbD k) := hpulses 0 (by omega)
    have h1 : tp.pulseAt (p + 1) = bitPulse (v.getLsbD k) := hpulses 1 (by omega)
    have hne := bitPulse_ne_sentinel (v.getLsbD k)
    have hfirst := Tape.takePulse_of_playing hp (by omega) (by rw [h0]; exact hne)
    have hsecond := Tape.takePulse_of_playing (tp := { tp with playPtr := some (p + 1) }) rfl
      (show p + 1 < tp.image.length by omega) (show tp.pulseAt (p + 1) ≠ sentinel by rw [h1]; exact hne)
    have hrest := ih (if v.getLsbD k then acc ||| bitWeight k else acc) (tp := { tp with playPtr := some (p + 1 + 1) }) rfl
      (show p + 1 + 1 + 2 * ks.length ≤ tp.image.length by omega)
      (fun j hj => (congrArg tp.pulseAt (by omega)).trans (hpulses (j + 2) (by omega)))
    simp only [List.map_cons, Tape.decodeBits, hfirst, hsecond, h0, bitPulse_long, hrest]
    rw [show p + 1 + 1 + 2 * ks.length = p + 2 * (ks.length + 1) by omega]
    rfl

theorem gatherBits_all (v : Byte) : gatherBits v [7, 6, 5, 4, 3, 2, 1, 0] 0 = v := by decide +revert

/-- The sixteen pulses of a byte are read back as that byte. -/
theorem Tape.decodeByte_of_pulses {tp : Tape} {p : Nat} {v : Byte} (hp : tp.playPtr = some p) (hlen : p + 16 ≤ tp.image.length)
    (hpulses : ∀ k, k < 16 → tp.pulseAt (p + k) = (bytePulses v).getD k 0) :
    tp.decodeByte = (some v, { tp with playPtr := some (p + 16) }) := by
  have hbits := Tape.decodeBits_of_pulses v [7, 6, 5, 4, 3, 2, 1, 0] 0 hp hlen hpulses
  rw [gatherBits_all] at hbits
  exact hbits

/-! ### The cut of a TAP file (51_tape R650) -/

theorem tapFile_cons (bs : List Byte) (blocks : List (List Byte)) : tapFile (bs :: blocks) = tapRecord bs ++ tapFile blocks := rfl

theorem tapBlocksFrom_tapFile {blocks : List (List Byte)} (h : ∀ bs ∈ blocks, bs.length < 65536) {n : Nat}
    (hn : blocks.length ≤ n) : tapBlocksFrom n (tapFile blocks) = some blocks := by
  induction blocks generalizing n with
  | nil => cases n <;> rfl
  | cons bs blocks ih =>
    obtain ⟨hbs, hblocks⟩ := List.forall_mem_cons.mp h
    obtain ⟨m, rfl⟩ := Nat.exists_eq_add_of_le' hn
    rw [tapFile_cons, List.length_cons, ← Nat.add_assoc, tapBlocksFrom_record _ _ _ hbs, ih hblocks (by omega)]
    rfl

/-- Each record of a TAP file has its two length bytes. -/
theorem length_le_tapFile_length (blocks : List (List Byte)) : blocks.length ≤ (tapFile blocks).length := by
  induction blocks with
  | nil => exact Nat.le_refl 0
  | cons bs blocks ih =>
    rw [tapFile_cons, List.length_append]
    simp only [tapRecord, List.length_cons]
    omega

/-- A file that is cut into blocks is the TAP file of those blocks. -/
theorem tapFile_of_tapBlocksFrom {n : Nat} {file : List Byte} {blocks : List (List Byte)} (h : tapBlocksFrom n file = some blocks) :
    tapFile blocks = file := by
  induction n generalizing file blocks with
  | zero =>
    cases file with
    | nil => obtain rfl := Option.some.inj h; rfl
    | cons => simp [tapBlocksFrom] at h
  | succ n ih =>
    match file, h with
    | [], h => obtain rfl := Option.some.inj h; rfl
    | [_], h => cases (h : none = some blocks)
    | lo :: hi :: rest, h =>
      rw [tapBlocksFrom] at h
      split_ifs at h with hshort
      obtain ⟨more, hmore, rfl⟩ := Option.map_eq_some_iff.mp h
      have hlen : (rest.take (mkWord hi lo).toNat).length = (mkWord hi lo).toNat := List.length_take_of_le (Nat.not_lt.mp hshort)
      rw [tapFile_cons, ih hmore, tapRecord, hlen, BitVec.ofNat_toNat, BitVec.setWidth_eq, loByte_mkWord, hiByte_mkWord]
      simp only [List.cons_append, List.take_append_drop]

/-! ### Durations held exactly (51_tape R640) -/

theorem findPulse_eq_some {ps : List (BitVec 32)} {d : BitVec 32} {k j : Nat} (h : findPulse ps d k = some j) :
    k ≤ j ∧ ps[j - k]? = some d := by
  induction ps generalizing k with
  | nil => cases h
  | cons p ps ih =>
    rw [findPulse] at h
    split_ifs at h with hp
    · obtain rfl := Option.some.inj h
      exact ⟨Nat.le_refl k, by rw [Nat.sub_self, hp]; rfl⟩
    · obtain ⟨hle, hget⟩ := ih h
      exact ⟨Nat.le_of_succ_le hle, by rw [show j - k = j - (k + 1) + 1 by omega]; exact hget⟩

theorem findPulse_eq_none {ps : List (BitVec 32)} {d : BitVec 32} {k : Nat} (h : findPulse ps d k = none) : d ∉ ps := by
  induction ps generalizing k with
  | nil => exact List.not_mem_nil
  | cons p ps ih =>
    rw [findPulse] at h
    split_ifs at h with hp
    rintro (_ | ⟨_, hmem⟩)
    · exact hp rfl
    · exact ih h hmem

/-- The durations that the image of a Pulse Store stands for. -/
def PulseStore.durations (store : PulseStore) : List (BitVec 32) :=
  store.image.map fun i => store.pulses.getD i.toNat sentinel

/-- The table of the store holds durations of `ds` only, each once, and every element of the image is an index into it. -/
structure PulseStore.Holds (store : PulseStore) (ds : List (BitVec 32)) : Prop where
  nodup : store.pulses.Nodup
  subset : store.pulses ⊆ ds
  inside : ∀ i ∈ store.image, i.toNat < store.pulses.length

theorem PulseStore.Holds.length_le {store : PulseStore} {ds : List (BitVec 32)} (h : store.Holds ds) :
    store.pulses.length ≤ ds.length :=
  (h.nodup.subperm h.subset).length_le

/-- Where at most 256 durations are in use, one more of them is interned as it is: it stands at the index given, in a table that extends
the old one. -/
theorem PulseStore.intern_exact {store : PulseStore} {ds : List (BitVec 32)} {d : BitVec 32} (h : store.Holds ds) (hd : d ∈ ds)
    (hsmall : ds.length ≤ 256) :
    ∃ k more, store.intern d = (k, { store with pulses := store.pulses ++ more }) ∧ k < 256 ∧
      (store.pulses ++ more)[k]? = some d ∧ (store.pulses ++ more).Nodup ∧ store.pulses ++ more ⊆ ds := by
  cases hf : findPulse store.pulses d 0 with
  | some k =>
    obtain ⟨-, hk⟩ := findPulse_eq_some hf
    have hlt : k < store.pulses.length := (List.getElem?_eq_some_iff.mp hk).1
    refine ⟨k, [], ?_, hlt.trans_le (h.length_le.trans hsmall), ?_⟩
    · rw [PulseStore.intern, hf, List.append_nil]
    · rw [List.append_nil]
      exact ⟨hk, h.nodup, h.subset⟩
  | none =>
    have hnew : (store.pulses ++ [d]).Nodup :=
      h.nodup.append (List.nodup_singleton d) (List.disjoint_singleton.mpr (findPulse_eq_none hf))
    have hsub : store.pulses ++ [d] ⊆ ds := List.append_subset.mpr ⟨h.subset, List.cons_subset.mpr ⟨hd, List.nil_subset ds⟩⟩
    have hroom : store.pulses.length < 256 := by
      have hle := (hnew.subperm hsub).length_le
      rw [List.length_append, List.length_singleton] at hle
      omega
    refine ⟨store.pulses.length, [d], ?_, hroom, List.getElem?_concat_length, hnew, hsub⟩
    rw [PulseStore.intern, hf]
    exact if_pos hroom

/-- Where at most 256 durations are in use, one of them appended is one more duration at the end. -/
theorem PulseStore.append_exact {store : PulseStore} {ds : List (BitVec 32)} {d : BitVec 32} (h : store.Holds ds) (hd : d ∈ ds)
    (hsmall : ds.length ≤ 256) :
    (store.append d).Holds ds ∧ (store.append d).durations = store.durations ++ [d] ∧ (store.append d).blocks = store.blocks := by
  obtain ⟨k, more, hintern, hk, hget, hnodup, hsub⟩ := PulseStore.intern_exact h hd hsmall
  have hlt : k < (store.pulses ++ more).length := (List.getElem?_eq_some_iff.mp hget).1
  have hindex : (BitVec.ofNat 8 k).toNat = k := by rw [BitVec.toNat_ofNat, Nat.mod_eq_of_lt hk]
  rw [PulseStore.append, hintern]
  refine ⟨⟨hnodup, hsub, ?inside⟩, ?durations, rfl⟩
  case inside =>
    intro i hi
    obtain hi | hi := List.mem_append.mp hi
    · exact (h.inside i hi).trans_le (by rw [List.length_append]; exact Nat.le_add_right _ _)
    · obtain rfl := List.mem_singleton.mp hi
      rwa [hindex]
  case durations =>
    have hold : store.image.map (fun i => (store.pulses ++ more).getD i.toNat sentinel) = store.durations :=
      List.map_congr_left fun i hi => List.getD_append _ _ _ _ (h.inside i hi)
    rw [PulseStore.durations, List.map_append, hold, List.map_singleton, hindex, List.getD_eq_getElem?_getD, hget]
    rfl

theorem PulseStore.appendAll_exact {store : PulseStore} {ds news : List (BitVec 32)} (h : store.Holds ds) (hnews : news ⊆ ds)
    (hsmall : ds.length ≤ 256) :
    (store.appendAll news).Holds ds ∧ (store.appendAll news).durations = store.durations ++ news ∧
      (store.appendAll news).blocks = store.blocks := by
  induction news generalizing store with
  | nil => exact ⟨h, (List.append_nil _).symm, rfl⟩
  | cons d news ih =>
    obtain ⟨hd, hnews⟩ := List.cons_subset.mp hnews
    obtain ⟨hholds, hdurations, hblocks⟩ := PulseStore.append_exact h hd hsmall
    obtain ⟨hholds', hdurations', hblocks'⟩ := ih hholds hnews
    exact ⟨hholds', hdurations'.trans (by rw [hdurations, List.append_assoc, List.singleton_append]), hblocks'.trans hblocks⟩

/-! ### The Pulse Store of a TAP file (51_tape R650, R652) -/

/-- The durations of a TAP block: pilot, two syncs, the two bits, pause and marker. -/
def blockDurations (hz : Nat) : List (BitVec 32) := [2168, 667, 735, 1710, 855, BitVec.ofNat 32 hz, sentinel]

theorem blockPulses_subset (hz : Nat) (bs : List Byte) : blockPulses hz bs ⊆ blockDurations hz := by
  have hbyte : ∀ v, bytePulses v ⊆ blockDurations hz := by
    intro v d hd
    obtain ⟨k, -, hd⟩ := List.mem_flatMap.mp hd
    obtain rfl := List.eq_of_mem_replicate hd
    split_ifs <;> simp [blockDurations]
  have hpilot : ∀ n, List.replicate n 2168 ⊆ blockDurations hz := fun n d hd => by
    obtain rfl := List.eq_of_mem_replicate hd
    simp [blockDurations]
  refine List.append_subset.mpr ⟨List.append_subset.mpr ⟨List.append_subset.mpr ⟨hpilot _, ?_⟩, ?_⟩, ?_⟩
  · simp [blockDurations]
  · exact fun d hd => have ⟨v, _, hv⟩ := List.mem_flatMap.mp hd; hbyte v hv
  · simp [blockDurations]

theorem pulseBits_bitsPulses (v : Byte) (ks : List Nat) (ds : List (BitVec 32)) :
    pulseBits (bitsPulses v ks ++ ds) = ks.map v.getLsbD ++ pulseBits ds := by
  induction ks with
  | nil => rfl
  | cons k ks ih =>
    have hbit : ∀ (b : Bool) (ds : List (BitVec 32)), pulseBits (bitPulse b :: bitPulse b :: ds) = b :: pulseBits ds := by
      intro b ds; cases b <;> rfl
    rw [List.map_cons, List.cons_append, ← ih]
    exact hbit _ _

theorem bitBytes_of_byte (v : Byte) (rest : List Bool) :
    bitBytes ([7, 6, 5, 4, 3, 2, 1, 0].map v.getLsbD ++ rest) = v :: bitBytes rest := by
  have hbyte : ∀ v : Byte, BitVec.ofBool (v.getLsbD 7) ++ BitVec.ofBool (v.getLsbD 6) ++ BitVec.ofBool (v.getLsbD 5) ++
      BitVec.ofBool (v.getLsbD 4) ++ BitVec.ofBool (v.getLsbD 3) ++ BitVec.ofBool (v.getLsbD 2) ++ BitVec.ofBool (v.getLsbD 1) ++
      BitVec.ofBool (v.getLsbD 0) = v := by decide
  exact congrArg (· :: bitBytes rest) (hbyte v)

/-- The data of a block ends at the pause, since the marker after it is no half of a bit. -/
theorem pulseBits_pause (p : BitVec 32) (ds : List (BitVec 32)) : pulseBits (p :: sentinel :: ds) = [] := by
  have hno : ∀ d, sentinel ≠ d → (decide (p = d) && decide (sentinel = d)) = false := fun d hd => by
    rw [decide_eq_false hd, Bool.and_false]
  rw [pulseBits, hno 855 (by decide), hno 1710 (by decide)]
  rfl

theorem bitBytes_pulseBits_data (bs : List Byte) (p : BitVec 32) (ds : List (BitVec 32)) :
    bitBytes (pulseBits (bs.flatMap bytePulses ++ p :: sentinel :: ds)) = bs := by
  induction bs with
  | nil => exact congrArg bitBytes (pulseBits_pause p ds)
  | cons v bs ih =>
    rw [List.flatMap_cons, List.append_assoc]
    exact (congrArg bitBytes (pulseBits_bitsPulses v _ _)).trans ((bitBytes_of_byte v _).trans (congrArg _ ih))

/-- The pulses of a block are read as its bytes, whatever comes after them. -/
theorem pulseBlock_blockPulses (hz : Nat) (bs : List Byte) (ds : List (BitVec 32)) : pulseBlock (blockPulses hz bs ++ ds) = bs := by
  have hpilot : ∀ n : Nat, ∀ d ∈ List.replicate n (2168 : BitVec 32), (d == 2168) = true := fun n d hd =>
    beq_iff_eq.mpr (List.eq_of_mem_replicate hd)
  simp only [pulseBlock, blockPulses, List.append_assoc]
  rw [List.dropWhile_append_of_pos (hpilot _)]
  exact bitBytes_pulseBits_data bs _ ds

/-- The durations from the offset of each block on begin with the pulses of the block. -/
def PulseStore.Reads (store : PulseStore) (hz : Nat) (blocks : List (List Byte)) : Prop :=
  List.Forall₂ (fun b bs => blockPulses hz bs <+: store.durations.drop b.offset) store.blocks blocks

theorem PulseStore.toTap_of_reads {store : PulseStore} {hz : Nat} {blocks : List (List Byte)} (h : store.Reads hz blocks) :
    store.toTap = tapFile blocks := by
  have hblocks : store.blocks.map (fun b => pulseBlock ((store.image.drop b.offset).map
      fun i => store.pulses.getD i.toNat sentinel)) = blocks := by
    rw [← List.forall₂_eq_eq_eq, List.forall₂_map_left_iff]
    refine h.imp fun b bs hb => ?_
    obtain ⟨more, hmore⟩ := hb
    rw [List.map_drop]
    exact (congrArg pulseBlock hmore.symm).trans (pulseBlock_blockPulses hz bs more)
  rw [PulseStore.toTap, hblocks]

theorem PulseStore.durations_length (store : PulseStore) : store.durations.length = store.image.length := List.length_map _

/-- A block made is one more block that is read back. -/
theorem PulseStore.makeBlock_reads {store : PulseStore} {hz : Nat} {blocks : List (List Byte)} (hholds : store.Holds (blockDurations hz))
    (h : store.Reads hz blocks) (description : String) (bs : List Byte) :
    (store.makeBlock hz description bs).Holds (blockDurations hz) ∧
      (store.makeBlock hz description bs).Reads hz (blocks ++ [bs]) := by
  obtain ⟨⟨hnodup, hsubset, hinside⟩, hdurations, -⟩ :=
    PulseStore.appendAll_exact hholds (blockPulses_subset hz bs) (by decide : 7 ≤ 256)
  have hmade : (store.makeBlock hz description bs).durations = store.durations ++ blockPulses hz bs := hdurations
  refine ⟨⟨hnodup, hsubset, hinside⟩, ?_⟩
  rw [PulseStore.Reads, hmade]
  refine List.rel_append ?old ?new
  case old =>
    refine h.imp fun b old hold => hold.trans ?_
    rw [List.drop_append]
    exact List.prefix_append _ _
  case new =>
    refine .cons ?_ .nil
    show _ <+: (store.durations ++ blockPulses hz bs).drop store.image.length
    rw [← store.durations_length, List.drop_left]

theorem PulseStore.makeBlocks_reads {hz : Nat} (describe : List Byte → String) (more : List (List Byte)) {store : PulseStore}
    {blocks : List (List Byte)} (hholds : store.Holds (blockDurations hz)) (h : store.Reads hz blocks) :
    (store.makeBlocks hz describe more).Reads hz (blocks ++ more) := by
  induction more generalizing store blocks with
  | nil => rw [List.append_nil]; exact h
  | cons bs more ih =>
    obtain ⟨hholds', h'⟩ := PulseStore.makeBlock_reads hholds h (describe bs) bs
    have hrest := ih hholds' h'
    rw [List.append_assoc, List.singleton_append] at hrest
    exact hrest

/-- Settles O56: the loader holds each duration exactly, since a TAP file needs seven at most. -/
theorem tapeByteRoundTrip : Obligations.TapeByteRoundTrip := by
  refine ⟨fun tp p v => Tape.decodeByte_of_pulses, fun blocks h => ?cut, fun hz describe file store h => ?encoded⟩
  case cut => exact tapBlocksFrom_tapFile h (length_le_tapFile_length blocks)
  case encoded =>
    obtain ⟨blocks, hblocks, rfl⟩ := Option.map_eq_some_iff.mp h
    have hempty : PulseStore.empty.Holds (blockDurations hz) := ⟨List.nodup_nil, List.nil_subset _, by simp [PulseStore.empty]⟩
    rw [PulseStore.toTap_of_reads (PulseStore.makeBlocks_reads describe blocks hempty .nil)]
    exact tapFile_of_tapBlocksFrom hblocks

end Sys2Proof.Machine
end

section
/-! The accelerators of the hook: what the tape trap loads, the delay loops in closed form and the disk traps that return at once
(53_hooks_accel R795 to R818). -/

namespace Sys2Proof.Machine

open Claim

/-! ### Bytes decoded one after the other (53_hooks_accel R796) -/

theorem decoded_of_fail {tp tq : Tape} (h : tp.decodeByte = (none, tq)) (n : Nat) : decoded (n + 1) tp = ([], tq) := by
  rw [decoded, h]

theorem decoded_of_byte {tp tq : Tape} {v : Byte} (h : tp.decodeByte = (some v, tq)) (n : Nat) :
    decoded (n + 1) tp = (v :: (decoded n tq).1, (decoded n tq).2) := by
  rw [decoded, h]

/-- The last of `n + 1` calls is made only if none failed before. -/
theorem decoded_succ (n : Nat) (tp : Tape) :
    decoded (n + 1) tp =
      if (decoded n tp).1.length = n then
        ((decoded n tp).1 ++ (decoded n tp).2.decodeByte.1.toList, (decoded n tp).2.decodeByte.2)
      else decoded n tp := by
  induction n generalizing tp with
  | zero =>
    rcases h : tp.decodeByte with ⟨_ | v, tq⟩
    · rw [decoded_of_fail h]; simp [decoded, h]
    · rw [decoded_of_byte h]; simp [decoded, h]
  | succ n ih =>
    rcases h : tp.decodeByte with ⟨_ | v, tq⟩
    · rw [decoded_of_fail h, decoded_of_fail h]
      exact (if_neg (Nat.succ_ne_zero n).symm).symm
    · rw [decoded_of_byte h, decoded_of_byte h, ih]
      by_cases hall : (decoded n tq).1.length = n
      · rw [if_pos hall]
        exact (if_pos (congrArg Nat.succ hall)).symm
      · rw [if_neg hall]
        exact (if_neg (hall ∘ Nat.succ.inj)).symm

theorem decoded_length_le (n : Nat) (tp : Tape) : (decoded n tp).1.length ≤ n := by
  induction n generalizing tp with
  | zero => exact Nat.le_refl 0
  | succ n ih =>
    rcases h : tp.decodeByte with ⟨_ | v, tq⟩
    · rw [decoded_of_fail h]; exact Nat.zero_le _
    · rw [decoded_of_byte h]; exact Nat.succ_le_succ (ih tq)

/-! ### Bytes stored one after the other -/

theorem storeBytes_eq (s : State) (addr : Word) (bytes : List Byte) :
    storeBytes s addr bytes = { s with ram := (storeBytes s addr bytes).ram } := by
  induction bytes generalizing s addr with
  | nil => rfl
  | cons v bytes ih =>
    rw [storeBytes, ih, s.memWrite_eq addr v]

/-- What is stored depends on the paging and on RAM, and on no register. -/
theorem storeBytes_congr {s u : State} (hp : u.p7FFD = s.p7FFD) (hd : u.dos = s.dos) (hc : u.cfg = s.cfg) (hr : u.ram = s.ram)
    (addr : Word) (bytes : List Byte) : (storeBytes u addr bytes).ram = (storeBytes s addr bytes).ram := by
  induction bytes generalizing s u addr with
  | nil => exact hr
  | cons v bytes ih =>
    rw [storeBytes, storeBytes, State.memWrite_congr hp hd hc hr, s.memWrite_eq addr v]
    exact ih (s := { s with ram := (s.memWrite addr v).ram }) (u := { u with ram := (s.memWrite addr v).ram }) hp hd hc rfl _

/-! ### The tape trap (53_hooks_accel R795 to R799) -/

/-- The machine with `payload` stored from IX on, IX and DE moved past it, `last` in L and the tape at `tp` (53_hooks_accel R796). -/
def State.loadedWith (s : State) (payload : List Byte) (last : Byte) (tp : Tape) : State :=
  let de := s.de - BitVec.ofNat 16 payload.length
  { storeBytes s s.ix payload with
    ix := s.ix + BitVec.ofNat 16 payload.length
    d := hiByte de
    e := loByte de
    l := last
    tape := tp }

/-- The load as a change of its few fields. -/
theorem State.loadedWith_eq (s : State) (payload : List Byte) (last : Byte) (tp : Tape) :
    s.loadedWith payload last tp = { s with
      ram := (storeBytes s s.ix payload).ram
      ix := s.ix + BitVec.ofNat 16 payload.length
      d := hiByte (s.de - BitVec.ofNat 16 payload.length)
      e := loByte (s.de - BitVec.ofNat 16 payload.length)
      l := last
      tape := tp } := by
  rw [State.loadedWith, storeBytes_eq]

theorem State.loadedWith_nil (s : State) (last : Byte) (tp : Tape) : s.loadedWith [] last tp = { s with l := last, tape := tp } := by
  rw [State.loadedWith_eq, List.length_nil, BitVec.sub_zero, BitVec.add_zero, State.de, hiByte_mkWord, loByte_mkWord]
  rfl

/-- L and the tape are overwritten by a load. -/
theorem State.loadedWith_of_byte (s : State) (payload : List Byte) (v last : Byte) (tp tq : Tape) :
    State.loadedWith { s with tape := tq, l := v } payload last tp = s.loadedWith payload last tp := by
  rw [State.loadedWith_eq, State.loadedWith_eq, storeBytes_congr (s := s) (u := { s with tape := tq, l := v }) rfl rfl rfl rfl]
  rfl

/-- One byte loaded and then the others is all of them loaded. -/
theorem State.loadedWith_cons (s : State) (v : Byte) (bytes : List Byte) (last : Byte) (tp tq : Tape) :
    State.loadedWith (s.loadedWith [v] v tq) bytes last tp = s.loadedWith (v :: bytes) last tp := by
  have hix : s.ix + BitVec.ofNat 16 1 + BitVec.ofNat 16 bytes.length = s.ix + BitVec.ofNat 16 (bytes.length + 1) := by
    rw [BitVec.add_assoc, ← BitVec.ofNat_add, Nat.add_comm]
  have hde : s.de - BitVec.ofNat 16 1 - BitVec.ofNat 16 bytes.length = s.de - BitVec.ofNat 16 (bytes.length + 1) := by
    rw [sub_sub, ← BitVec.ofNat_add, Nat.add_comm]
  have hram : (storeBytes (s.loadedWith [v] v tq) (s.ix + BitVec.ofNat 16 1) bytes).ram =
      (storeBytes s s.ix (v :: bytes)).ram :=
    storeBytes_congr (s := s.memWrite s.ix v) (u := s.loadedWith [v] v tq) rfl rfl rfl rfl _ bytes
  have hde1 : (s.loadedWith [v] v tq).de = s.de - BitVec.ofNat 16 1 := by
    rw [State.loadedWith_eq]; exact mkWord_bytes _
  have hix1 : (s.loadedWith [v] v tq).ix = s.ix + BitVec.ofNat 16 1 := rfl
  rw [State.loadedWith_eq (s.loadedWith [v] v tq), hde1, hix1, hram, hix, hde, State.loadedWith_eq, State.loadedWith_eq]
  rfl

theorem State.trapByte_fail {s : State} {tq : Tape} (h : s.tape.decodeByte = (none, tq)) :
    s.trapByte = (false, { s with tape := tq }) := by
  rw [State.trapByte, h]

theorem State.trapByte_byte {s : State} {v : Byte} {tq : Tape} (h : s.tape.decodeByte = (some v, tq)) :
    s.trapByte = (true, { s with tape := tq, l := v }) := by
  rw [State.trapByte, h]

/-- One turn of the data loop loads one byte. -/
theorem State.trapData_byte {s : State} {v : Byte} {tq : Tape} (h : s.tape.decodeByte = (some v, tq)) (n : Nat) :
    State.trapData (n + 1) s = State.trapData n (s.loadedWith [v] v tq) := by
  rw [State.trapData, h]
  simp only [State.memWrite_congr (s := s) (u := { s with tape := tq, l := v }) rfl rfl rfl rfl, State.loadedWith_eq]
  rfl

theorem State.trapData_fail {s : State} {tq : Tape} (h : s.tape.decodeByte = (none, tq)) (n : Nat) :
    State.trapData (n + 1) s = (false, { s with tape := tq }) := by
  rw [State.trapData, h]

/-- The data loop loads the bytes decoded, and succeeds if none is missing. -/
theorem State.trapData_eq (n : Nat) (s : State) :
    State.trapData n s =
      (decide ((decoded n s.tape).1.length = n),
        s.loadedWith (decoded n s.tape).1 ((decoded n s.tape).1.getLast?.getD s.l) (decoded n s.tape).2) := by
  induction n generalizing s with
  | zero => rw [State.trapData, decoded, State.loadedWith_nil]; rfl
  | succ n ih =>
    rcases h : s.tape.decodeByte with ⟨_ | v, tq⟩
    · rw [State.trapData_fail h, decoded_of_fail h, State.loadedWith_nil]; rfl
    · have hl : (s.loadedWith [v] v tq).l = v := rfl
      have htape : (s.loadedWith [v] v tq).tape = tq := rfl
      rw [State.trapData_byte h, ih, decoded_of_byte h, State.loadedWith_cons, hl, htape]
      simp only [List.length_cons, Nat.add_right_cancel_iff, List.getLast?_cons, Option.getD_some]

/-- The bytes that the trap decodes after the pilot, flag and checksum among them, and the tape it leaves (53_hooks_accel R795). -/
def State.trapBytes (s : State) (count : Nat) : List Byte × Tape :=
  if s.tape.skipPilot.1 then decoded (count + 2) s.tape.skipPilot.2 else ([], s.tape.skipPilot.2)

/-- The trap after the flag byte `v`: the data loop and the checksum byte. -/
theorem State.trapRest_eq {s : State} {count : Nat} (hcount : count = (s.de - 1).toNat + 1) (v : Byte) (tp : Tape) :
    (match State.trapData ((s.de - 1).toNat + 1) { s with tape := tp, l := v } with
      | (false, s2) => (false, s2)
      | (true, s2) => s2.trapByte) =
      (true && decide ((v :: (decoded (count + 1) tp).1).length = count + 2),
        s.loadedWith (((v :: (decoded (count + 1) tp).1).drop 1).take count)
          ((v :: (decoded (count + 1) tp).1).getLast?.getD s.l) (decoded (count + 1) tp).2) := by
  have hle := decoded_length_le count tp
  rw [← hcount, State.trapData_eq, State.loadedWith_of_byte, Bool.true_and, List.drop_one, List.tail_cons, List.getLast?_cons,
    Option.getD_some, List.length_cons, decoded_succ]
  dsimp only
  generalize decoded count tp = got at hle ⊢
  by_cases hall : got.1.length = count
  case neg =>
    rw [if_neg hall, decide_eq_false hall, decide_eq_false (by omega), List.take_of_length_le hle]
  case pos =>
    rw [if_pos hall, decide_eq_true hall, List.take_left' hall]
    dsimp only
    rcases hsum : got.2.decodeByte with ⟨_ | w, t3⟩
    case none =>
      rw [State.trapByte_fail (s := s.loadedWith _ _ got.2) hsum, Option.toList_none, List.append_nil, decide_eq_false (by omega)]
      rfl
    case some =>
      rw [State.trapByte_byte (s := s.loadedWith _ _ got.2) hsum, Option.toList_some, List.length_append, List.length_singleton,
        hall, decide_eq_true rfl, List.getLast?_concat]
      rfl

/-- The trap up to its verdict is a load of the bytes between the flag and the checksum. -/
theorem State.trapRun_eq {s : State} {count : Nat} (hcount : count = (s.de - 1).toNat + 1) :
    s.trapRun =
      (s.tape.skipPilot.1 && decide ((s.trapBytes count).1.length = count + 2),
        s.loadedWith (((s.trapBytes count).1.drop 1).take count) ((s.trapBytes count).1.getLast?.getD s.l) (s.trapBytes count).2) := by
  rw [State.trapRun, State.trapBytes]
  rcases hpilot : s.tape.skipPilot with ⟨_ | _, tp⟩
  case false =>
    simp only [Bool.false_and, if_neg Bool.false_ne_true]
    rw [List.drop_nil, List.take_nil, State.loadedWith_nil]
    rfl
  case true =>
    dsimp only
    rw [if_pos rfl]
    rcases hflag : tp.decodeByte with ⟨_ | v, t1⟩
    case none =>
      rw [State.trapByte_fail (s := { s with tape := tp }) hflag, decoded_of_fail hflag]
      rw [List.drop_nil, List.take_nil, State.loadedWith_nil, Bool.true_and, decide_eq_false (by simp)]
      rfl
    case some =>
      rw [State.trapByte_byte (s := { s with tape := tp }) hflag, decoded_of_byte hflag]
      exact State.trapRest_eq hcount v t1

theorem State.trapSucceed_loadedWith (s : State) (payload : List Byte) (last : Byte) (tp : Tape) :
    (s.loadedWith payload last tp).trapSucceed = { s.loadedWith payload last tp with
      pc := 0x05DF
      f := s.f ||| 0x01
      b := 0xB0
      c := 0x01
      h := 0
      tape := { tp with edgeChange := s.now } } := by
  rw [State.loadedWith_eq]; rfl

theorem toNat_sub_one (v : Word) : (v.toNat + 65535) % 65536 = (v - 1).toNat := by bv_omega

/-- Settles O57: the trap's work is a load of the bytes decoded between the flag and the checksum, so each exit is that load with the
exit's own registers. -/
theorem tapeTrapExits : Obligations.TapeTrapExits := by
  intro s u
  by_cases hcond : s.tape.playPtr ≠ none ∧ s.cfg.tapeTraps = true ∧ s.pc = 0x056B
  case neg =>
    rw [if_neg hcond]
    refine if_neg fun h => hcond ?_
    simpa [Option.isSome_iff_ne_none, and_assoc] using h
  case pos =>
    rw [if_pos hcond]
    obtain ⟨hplay, htraps, hpc⟩ := hcond
    intro count pilot got payload de loaded
    have hrun : s.trapRun = (pilot.1 && decide (got.1.length = count + 2),
        s.loadedWith payload (got.1.getLast?.getD s.l) got.2) :=
      State.trapRun_eq (congrArg (· + 1) (toNat_sub_one s.de))
    have hguard : (s.tape.playPtr.isSome && s.cfg.tapeTraps && s.pc == 0x056B) = true := by
      rw [htraps, hpc, Option.isSome_iff_ne_none.mpr hplay]; rfl
    have hexit : u = if pilot.1 = true ∧ got.1.length = count + 2 then
        (s.loadedWith payload (got.1.getLast?.getD s.l) got.2).trapSucceed
        else (s.loadedWith payload (got.1.getLast?.getD s.l) got.2).trapFail := by
      show s.tapeTrap = _
      rw [State.tapeTrap, if_pos hguard, hrun]
      by_cases hok : pilot.1 = true ∧ got.1.length = count + 2
      · rw [if_pos hok, hok.1, decide_eq_true hok.2]; rfl
      · rw [if_neg hok, show (pilot.1 && decide (got.1.length = count + 2)) = false by
          rw [← Bool.not_eq_true, Bool.and_eq_true, decide_eq_true_eq]; exact hok]
    refine ⟨congrArg Prod.fst hrun, ?_, ?_⟩
    · rw [hexit, State.loadedWith_eq]
      split <;> rfl
    · rw [hexit, State.trapSucceed_loadedWith]
      rfl

end Sys2Proof.Machine
end

section
/-! The delay loops skipped in closed form and the disk traps that return at once (53_hooks_accel R802 to R818). -/

namespace Sys2Proof.Machine

open Claim

theorem State.atDecJr_iff (s : State) :
    s.atDecJr = true ↔ s.memRead (s.pc + 0) = 0x3D ∧ s.memRead (s.pc + 1) = 0x20 ∧ s.memRead (s.pc + 2) = 0xFD := by
  simp only [State.atDecJr, Bool.and_eq_true, decide_eq_true_eq, and_assoc]
  rfl

theorem State.atDjnz_iff (s : State) : s.atDjnz = true ↔ s.memRead (s.pc + 0) = 0x10 ∧ s.memRead (s.pc + 1) = 0xFE := by
  simp only [State.atDjnz, Bool.and_eq_true, decide_eq_true_eq]
  rfl

theorem State.atDecJp_iff (s : State) :
    s.atDecJp = true ↔ s.memRead (s.pc + 0) = 0x3D ∧ s.memRead (s.pc + 1) = 0xC2 ∧ s.memRead (s.pc + 2) = loByte s.pc ∧
      s.memRead (s.pc + 3) = hiByte s.pc := by
  simp only [State.atDecJp, Bool.and_eq_true, decide_eq_true_eq, and_assoc]
  rfl

theorem byte_toNat_sub_one (v : Byte) : (v - 1).toNat = (v.toNat + 255) % 256 := by bv_omega

theorem State.skipA_eq (s : State) (cycles : Nat) : s.skipA cycles = { s with t := s.t + (s.a.toNat + 255) % 256 * cycles, a := 1 } := by
  rw [State.skipA, byte_toNat_sub_one]

theorem State.skipB_eq (s : State) (cycles : Nat) : s.skipB cycles = { s with t := s.t + (s.b.toNat + 255) % 256 * cycles, b := 1 } := by
  rw [State.skipB, byte_toNat_sub_one]

/-- The accelerator where the tape plays and sound is off (53_hooks_accel R802). -/
theorem State.accelerate_of_playing {s : State} (h : s.tape.playPtr ≠ none ∧ s.cfg.soundEnabled = false) :
    s.accelerate =
      if s.atDecJr then s.skipA 16
      else if s.atDjnz then s.skipB 13
      else if s.atDecJp then s.skipA 14
      else
        match s.cfg.edgePatterns.find? s.atPattern with
        | some p => s.edgePoll 256 p
        | none => s := by
  refine if_pos ?_
  rw [Option.isSome_iff_ne_none.mpr h.1, h.2]
  rfl

theorem State.accelerate_of_idle {s : State} (h : ¬(s.tape.playPtr ≠ none ∧ s.cfg.soundEnabled = false)) : s.accelerate = s := by
  refine if_neg fun hguard => h ?_
  simpa [Option.isSome_iff_ne_none] using hguard

/-- The disk traps where TR-DOS has them (53_hooks_accel R814). -/
theorem State.diskTrap_of_dos {s : State} (h : s.cfg.trdosPresent = true ∧ s.dos = true ∧ s.cfg.trdosTraps = true) :
    s.diskTrap =
      if s.pc == 0x3DFD && s.trdosByte 0x3DFD == 0x3E then { s.popPC with a := 0, c := 0 }
      else if s.pc == 0x3EA0 && s.trdosByte 0x3EA0 == 0x06 then { s.popPC with a := 0, b := 0 }
      else if s.pc == 0x3E01 && s.trdosByte 0x3E01 == 0x0D then { s with a := 1, c := 1 }
      else if s.atT4 then s.wdBulkRead.skipTwo
      else if s.atT5 then s.wdBulkWrite.skipTwo
      else s := by
  obtain ⟨hpresent, hdos, htraps⟩ := h
  refine if_pos ?_
  rw [hpresent, hdos, htraps]
  rfl

theorem State.diskTrap_of_not_dos {s : State} (h : ¬(s.cfg.trdosPresent = true ∧ s.dos = true ∧ s.cfg.trdosTraps = true)) :
    s.diskTrap = s := by
  refine if_neg fun hguard => h ?_
  simpa only [Bool.and_eq_true, and_assoc] using hguard

/-- A trap's test is on PC and on the byte of the TR-DOS ROM there (53_hooks_accel R814). -/
theorem State.trapTest_eq {s : State} {pc : Word} {o : BitVec 14} {b : Byte} (hkey : 2 * 0x4000 + pc.toNat = cellKey 2 o)
    (hpc : s.pc = pc) (hb : cellGet s.rom (2 * 0x4000 + pc.toNat) = b) : (s.pc == pc && s.trdosByte o == b) = true := by
  rw [hkey] at hb
  rw [State.trdosByte, hpc, hb, beq_self_eq_true, beq_self_eq_true]
  rfl

/-- Settles O58: each delay loop is its own branch of the accelerator, and each of the three traps stands at a PC of its own. -/
theorem delayLoopsAndDiskTraps : Obligations.DelayLoopsAndDiskTraps := by
  intro s m trap
  constructor
  · by_cases hplay : s.tape.playPtr ≠ none ∧ s.cfg.soundEnabled = false
    case neg => rw [if_neg hplay]; exact State.accelerate_of_idle hplay
    case pos =>
      rw [if_pos hplay, State.accelerate_of_playing hplay]
      by_cases hjr : m 0 = 0x3D ∧ m 1 = 0x20 ∧ m 2 = 0xFD
      case pos => rw [if_pos hjr, if_pos (s.atDecJr_iff.mpr hjr), State.skipA_eq]
      rw [if_neg hjr, if_neg (mt s.atDecJr_iff.mp hjr)]
      by_cases hdjnz : m 0 = 0x10 ∧ m 1 = 0xFE
      case pos => rw [if_pos hdjnz, if_pos (s.atDjnz_iff.mpr hdjnz), State.skipB_eq]
      rw [if_neg hdjnz, if_neg (mt s.atDjnz_iff.mp hdjnz)]
      intro hjp
      rw [if_pos (s.atDecJp_iff.mpr hjp), State.skipA_eq]
  · by_cases hdos : s.cfg.trdosPresent = true ∧ s.dos = true ∧ s.cfg.trdosTraps = true
    case neg => rw [if_neg hdos]; exact State.diskTrap_of_not_dos hdos
    case pos =>
      rw [if_pos hdos, State.diskTrap_of_dos hdos]
      refine ⟨?_, ?_, ?_⟩
      · rintro ⟨hpc, hbyte⟩
        exact if_pos (State.trapTest_eq rfl hpc hbyte)
      · rintro ⟨hpc, hbyte⟩
        rw [if_neg (by simp [hpc])]
        exact if_pos (State.trapTest_eq rfl hpc hbyte)
      · rintro ⟨hpc, hbyte⟩
        rw [if_neg (by simp [hpc]), if_neg (by simp [hpc])]
        exact if_pos (State.trapTest_eq rfl hpc hbyte)

end Sys2Proof.Machine
end

section
/-! The checksum of the disk's fields, and the ID field of a sector in the reference layout (52_wd1793 R693, R701 to R704). -/

namespace Sys2Proof.Machine

open Claim

/-! ### Checksums (52_wd1793 R693) -/

/-- A byte only enters the checksum register by XOR into its high half. -/
theorem crcByte_eq (crc : Word) (b : Byte) : crcByte crc b = crcByte (crc ^^^ mkWord b 0) 0 := by
  have hzero : crc ^^^ mkWord b 0 ^^^ mkWord 0 0 = crc ^^^ mkWord b 0 := BitVec.xor_zero
  rw [crcByte, crcByte, hzero]

/-- With a high half of 0 no shift meets the polynomial. -/
theorem crcByte_low (b : Byte) : crcByte (mkWord 0 b) 0 = mkWord b 0 := by
  revert b; decide

theorem xor_mkWord_hiByte (w : Word) : w ^^^ mkWord (hiByte w) 0 = mkWord 0 (loByte w) := by
  have hsplit : mkWord (hiByte w) (loByte w) ^^^ mkWord (hiByte w) 0 = mkWord 0 (loByte w) := by
    generalize hiByte w = hi, loByte w = lo
    rw [mkWord, mkWord, mkWord, BitVec.xor_append, BitVec.xor_self]
    exact congrArg (0 ++ ·) BitVec.xor_zero
  rwa [mkWord_bytes] at hsplit

theorem crcByte_hiByte (crc : Word) : crcByte crc (hiByte crc) = mkWord (loByte crc) 0 := by
  rw [crcByte_eq, xor_mkWord_hiByte, crcByte_low]

/-- The two bytes of the register, high byte first, bring it to 0. -/
theorem crcByte_loByte_crcByte_hiByte (crc : Word) : crcByte (crcByte crc (hiByte crc)) (loByte crc) = 0 := by
  rw [crcByte_hiByte, crcByte_eq, BitVec.xor_self]; rfl

/-- A field with its checksum behind it, high byte first. -/
def withCrc (bytes : List Byte) : List Byte := bytes ++ [hiByte (crcAm bytes), loByte (crcAm bytes)]

theorem crcAm_withCrc (bytes : List Byte) : crcAm (withCrc bytes) = 0 := by
  rw [withCrc, crcAm, crc16, List.foldl_append]
  exact crcByte_loByte_crcByte_hiByte (crcAm bytes)

theorem crc16_cons (crc : Word) (b : Byte) (bytes : List Byte) : crc16 crc (b :: bytes) = crc16 (crcByte crc b) bytes := rfl

/-- The first check value of the spec, byte by byte (52_wd1793 R693). -/
theorem crc16_marks : crc16 0xFFFF [0xA1, 0xA1, 0xA1] = 0xCDB4 := by
  have h1 : crcByte 0xFFFF 0xA1 = 0x443B := by decide
  have h2 : crcByte 0x443B 0xA1 = 0x968B := by decide
  have h3 : crcByte 0x968B 0xA1 = 0xCDB4 := by decide
  rw [crc16_cons, h1, crc16_cons, h2, crc16_cons, h3]
  rfl

/-- The second check value of the spec, byte by byte (52_wd1793 R693). -/
theorem crcAm_id : crcAm [0xFE, 0x00, 0x00, 0x01, 0x01] = 0xFA0C := by
  have h1 : crcByte 0xCDB4 0xFE = 0xB230 := by decide
  have h2 : crcByte 0xB230 0x00 = 0xB799 := by decide
  have h3 : crcByte 0xB799 0x00 = 0x4E3C := by decide
  have h4 : crcByte 0x4E3C 0x01 = 0x852B := by decide
  have h5 : crcByte 0x852B 0x01 = 0xFA0C := by decide
  rw [crcAm, crc16_cons, h1, crc16_cons, h2, crc16_cons, h3, crc16_cons, h4, crc16_cons, h5]
  rfl

/-! ### The search for an ID field (52_wd1793 R702, R703) -/

/-- Bytes on the track without an address mark's clock. -/
def plainBytes (bs : List Byte) : Track := bs.map fun b => (b, false)

/-- The twelve zeros and three marks before a field (52_wd1793 R701). -/
def syncField : Track := plainBytes (List.replicate 12 0x00) ++ List.replicate 3 (0xA1, true)

theorem headersFrom_of_ne_mark {x : Byte × Bool} (hx : x ≠ (0xA1, true)) (trklen i : Nat) (rest : Track) :
    headersFrom trklen (x :: rest) i = headersFrom trklen rest (i + 1) := by
  rw [headersFrom, decide_eq_false hx]; rfl

theorem headersFrom_of_ne_id {rest : Track} (hid : (rest.getD 0 (0, false)).1 ≠ 0xFE) (trklen i : Nat) (x : Byte × Bool) :
    headersFrom trklen (x :: rest) i = headersFrom trklen rest (i + 1) := by
  rw [headersFrom, decide_eq_false hid, Bool.and_false]; rfl

theorem headersFrom_of_id {rest : Track} (hid : (rest.getD 0 (0, false)).1 = 0xFE) {trklen i : Nat} (hfit : i + 7 < trklen) :
    headersFrom trklen ((0xA1, true) :: rest) i = makeHeader trklen i rest :: headersFrom trklen rest (i + 1) := by
  rw [headersFrom, decide_eq_true hid, decide_eq_true hfit]; rfl

theorem headersFrom_plainBytes (trklen : Nat) (bs : List Byte) (rest : Track) (i : Nat) :
    headersFrom trklen (plainBytes bs ++ rest) i = headersFrom trklen rest (i + bs.length) := by
  induction bs generalizing i with
  | nil => rfl
  | cons b bs ih =>
    have hcons : plainBytes (b :: bs) ++ rest = (b, false) :: (plainBytes bs ++ rest) := rfl
    rw [hcons, headersFrom_of_ne_mark (by simp), ih, List.length_cons, Nat.add_right_comm, Nat.add_assoc]

/-- No ID field starts before the last mark of a sync. -/
theorem headersFrom_syncField (trklen i : Nat) (rest : Track) :
    headersFrom trklen (syncField ++ rest) i = headersFrom trklen ((0xA1, true) :: rest) (i + 14) := by
  have hsync : syncField ++ rest =
      plainBytes (List.replicate 12 0x00) ++ ((0xA1, true) :: (0xA1, true) :: (0xA1, true) :: rest) := rfl
  rw [hsync, headersFrom_plainBytes, headersFrom_of_ne_id (by simp), headersFrom_of_ne_id (by simp)]
  rfl

theorem findMark_of_ne_mark {x : Byte × Bool} (hx : x ≠ (0xA1, true)) (count : Nat) (rest : Track) (j : Nat) :
    findMark (count + 1) (x :: rest) j = findMark count rest (j + 1) := by
  cases rest with
  | nil => cases count <;> rfl
  | cons y rest => rw [findMark, decide_eq_false hx]; rfl

theorem findMark_plainBytes (count : Nat) (bs : List Byte) (rest : Track) (j : Nat) :
    findMark (count + bs.length) (plainBytes bs ++ rest) j = findMark count rest (j + bs.length) := by
  induction bs generalizing j with
  | nil => rfl
  | cons b bs ih =>
    have hcons : plainBytes (b :: bs) ++ rest = (b, false) :: (plainBytes bs ++ rest) := rfl
    rw [hcons, List.length_cons, ← Nat.add_assoc, findMark_of_ne_mark (by simp), ih, Nat.add_right_comm, Nat.add_assoc]

/-- A data mark behind a sync is found at its last mark. -/
theorem findMark_syncField {m : Byte} (hm : m = 0xFB ∨ m = 0xF8) (count : Nat) (rest : Track) (j : Nat) :
    findMark (count + 15) (syncField ++ (m, false) :: rest) j = some (j + 16, m) := by
  have hsync : syncField ++ (m, false) :: rest =
      plainBytes (List.replicate 12 0x00) ++ ((0xA1, true) :: (0xA1, true) :: (0xA1, true) :: (m, false) :: rest) := rfl
  rw [hsync]
  refine (findMark_plainBytes (count + 3) (List.replicate 12 0x00) _ j).trans ?_
  rcases hm with rfl | rfl <;> rfl

theorem dataLen_eq (n : Byte) : dataLen n = 128 * 2 ^ (n.toNat % 4) := by
  rw [dataLen, Nat.shiftLeft_eq, BitVec.toNat_and]
  exact congrArg (128 * 2 ^ ·) (Nat.and_two_pow_sub_one_eq_mod n.toNat 2)

/-- The ID field of a track from its mark on, with a good checksum and its data field 22 bytes behind (52_wd1793 R701, R703). -/
theorem makeHeader_of_fields {c h r n m : Byte} (hm : m = 0xFB ∨ m = 0xF8) {trklen am : Nat}
    (hfits : am + 46 + dataLen n + 2 ≤ trklen) (rest : Track) :
    makeHeader trklen am (plainBytes (withCrc [0xFE, c, h, r, n]) ++
        (plainBytes (List.replicate 22 0x4E) ++ (syncField ++ (m, false) :: rest))) =
      { am := am, c := c, h := h, r := r, n := n, idcrcOk := true, hasData := true, deleted := m == 0xF8, datapos := am + 46 } := by
  have hmark : findMark 44 (plainBytes (List.replicate 22 0x4E) ++ (syncField ++ (m, false) :: rest)) (am + 8) =
      some (am + 46, m) :=
    (findMark_plainBytes 22 (List.replicate 22 0x4E) _ _).trans (findMark_syncField hm 7 rest _)
  have hid : (mkWord (hiByte (crcAm [0xFE, c, h, r, n])) (loByte (crcAm [0xFE, c, h, r, n])) == crcAm [0xFE, c, h, r, n]) = true := by
    rw [mkWord_bytes, beq_self_eq_true]
  rw [makeHeader]
  dsimp only
  rw [show List.drop 7 _ = plainBytes (List.replicate 22 0x4E) ++ (syncField ++ (m, false) :: rest) from rfl, hmark]
  show Header.mk am c h r n _ (decide (am + 46 + dataLen n + 2 ≤ trklen)) (m == 0xF8) (am + 46) = _
  rw [decide_eq_true hfits]
  exact congrArg (Header.mk am c h r n · true (m == 0xF8) (am + 46)) hid

/-- The reference layout as two syncs, each with the field behind it. -/
theorem referenceSector_eq (c h r n : Byte) (gap3 : Nat) (deleted : Bool) (bytes : List Byte) :
    ∃ tail : List Byte, tail.length = bytes.length + 2 + gap3 ∧ referenceSector c h r n gap3 deleted bytes =
      syncField ++
        (plainBytes (withCrc [0xFE, c, h, r, n]) ++
          (plainBytes (List.replicate 22 0x4E) ++
            (syncField ++ (if deleted then 0xF8 else 0xFB, false) :: plainBytes tail))) := by
  let mark : Byte := if deleted then 0xF8 else 0xFB
  let crc := crcAm (mark :: bytes)
  refine ⟨bytes ++ ([hiByte crc, loByte crc] ++ List.replicate gap3 0x4E), by
    simp only [List.length_append, List.length_cons, List.length_nil, List.length_replicate]; omega, ?_⟩
  simp only [referenceSector, List.append_assoc]
  simp only [plainBytes, syncField, withCrc, List.map_cons, List.map_append, List.append_assoc, List.cons_append, List.map_replicate]
  rfl

/-- Settles O60: the checksum by its linearity, the header by walking the layout from sync to sync. -/
theorem trackFormat : Obligations.TrackFormat := by
  refine ⟨crcAm_withCrc, crc16_marks, crcAm_id, ?_⟩
  intro c h r n gap3 deleted bytes hbytes
  obtain ⟨tail, htail, hlayout⟩ := referenceSector_eq c h r n gap3 deleted bytes
  have hm : (if deleted then 0xF8 else 0xFB : Byte) = 0xFB ∨ (if deleted then 0xF8 else 0xFB : Byte) = 0xF8 := by
    cases deleted <;> simp
  have hlen : (referenceSector c h r n gap3 deleted bytes).length = 62 + bytes.length + gap3 := by
    rw [hlayout]
    simp [syncField, plainBytes, withCrc, htail]
    omega
  have hfits : 14 + 46 + dataLen n + 2 ≤ (referenceSector c h r n gap3 deleted bytes).length := by
    rw [hlen, dataLen_eq, ← hbytes]; omega
  have hnone : (((if deleted then 0xF8 else 0xFB, false) :: plainBytes tail).getD 0 (0, false)).1 ≠ (0xFE : Byte) := by
    cases deleted <;> simp
  rw [headers]
  generalize (referenceSector c h r n gap3 deleted bytes).length = trklen at hlen hfits ⊢
  rw [hlayout, headersFrom_syncField, headersFrom_of_id rfl (by omega), Nat.zero_add, makeHeader_of_fields hm hfits,
    headersFrom_plainBytes, headersFrom_plainBytes, headersFrom_syncField, headersFrom_of_ne_id hnone,
    headersFrom_of_ne_mark (by simp), ← List.append_nil (plainBytes tail), headersFrom_plainBytes, headersFrom]
  cases deleted <;> rfl

end Sys2Proof.Machine
end

section
/-! The controller's registers and the acceptance of a command (52_wd1793 R712 to R718, R730, R732). -/

namespace Sys2Proof.Machine

open Claim

theorem isForceInt_iff (v : Byte) : isForceInt v = true ↔ v.toNat / 16 = 0xD := by
  revert v; decide

theorem type1Form_eq (cmd : Byte) : type1Form cmd = (!cmd.getLsbD 7 || decide (cmd.toNat / 16 = 0xD)) := by
  rw [type1Form, isType1, ← Bool.decide_coe (isForceInt cmd), decide_eq_decide.mpr (isForceInt_iff cmd)]

theorem and_stBusy_ne_zero_iff (status : Byte) : status &&& stBusy ≠ 0 ↔ status.getLsbD 0 = true := by
  revert status; decide

theorem and_stNotReady_ne_zero_iff (status : Byte) : status &&& stNotReady ≠ 0 ↔ status.getLsbD 7 = true := by
  revert status; decide

/-- BUSY is another bit than NOT_READY. -/
theorem or_stBusy_notReady (status : Byte) : (status ||| stBusy) &&& stNotReady = status &&& stNotReady := by
  revert status; decide

theorem or_stBusy_and_not_stBusy (status : Byte) : (status ||| stBusy) &&& ~~~stBusy = status &&& ~~~stBusy := by
  revert status; decide

theorem Wd.dropDrq_eq (w : Wd) :
    w.dropDrq = { w with
      rqs := w.rqs &&& 0xBF
      status := if !w.cmd.getLsbD 7 || decide (w.cmd.toNat / 16 = 0xD) then w.status else w.status &&& 0xFD } := by
  rw [Wd.dropDrq, type1Form_eq]
  rfl

/-- A write of the system port by the two values of its reset bit (52_wd1793 R718). -/
theorem State.wdSystem_eq (s : State) (v : Byte) :
    s.wdSystem v =
      if v.getLsbD 2 = false then
        { s with wd := { s.wd with
            system := v, state := .reset, cmd := 0x03, sector := 0x01, status := 0x00, rqs := 0, rwlen := 0 } }
      else if s.wd.system.getLsbD 2 = false then
        { s with wd := { s.wd with system := v, cmd := 0x03, status := 0x01, next := s.now, state := .type1Cmd } }
      else { s with wd := { s.wd with system := v } } := by
  simp only [State.wdSystem, Bool.not_eq_true']
  rfl

/-- Force interrupt ends a command under way and is taken as the command otherwise (52_wd1793 R732). -/
theorem State.wdForceInt_eq (s : State) (v : Byte) :
    s.wdForceInt v =
      if s.wd.status.getLsbD 0 then
        { s with wd := { s.wd with state := .idle, status := s.wd.status &&& 0xFE, rqs := if v.getLsbD 3 then 0x80 else 0 } }
      else { s with wd := { s.wd with cmd := v, status := s.wd.status &&& 0x80, rqs := if v.getLsbD 3 then 0x80 else 0 } } := by
  simp only [State.wdForceInt, and_stBusy_ne_zero_iff]
  split <;> rfl

/-- A command taken: the motor runs, and a Type II or III command ends at once where the drive is not ready (52_wd1793 R730 (4)). -/
theorem State.wdAccept_eq (s : State) (v : Byte) :
    let asked : Wd := { s.wd with cmd := v, status := s.wd.status ||| 0x01, rqs := 0, next := s.now }
    let spun := s.drives.set s.driveSel { s.curDrive with motor := s.now + BitVec.ofNat 64 (2 * s.cfg.clockHz) }
    s.wdAccept v =
      if v.getLsbD 7 then
        if s.wd.status.getLsbD 7 then
          { s with drives := spun, wd := { asked with state := .idle, status := s.wd.status &&& 0xFE, rqs := 0x80 } }
        else { s with drives := spun, wd := { asked with state := .delayBeforeCmd } }
      else { s with drives := spun, wd := { asked with state := .type1Cmd } } := by
  intro asked spun
  simp only [State.wdAccept, or_stBusy_notReady, and_stNotReady_ne_zero_iff]
  split
  · split
    · simp only [Wd.finish, or_stBusy_and_not_stBusy]
      rfl
    · rfl
  · rfl

/-- Settles O59: each port's access is a rule of the controller, with the masks as numbers. -/
theorem diskRegisters : Obligations.DiskRegisters := by
  intro s v w type1 noDrq asked spun
  have hdrop : s.wd.dropDrq = noDrq := s.wd.dropDrq_eq
  refine ⟨rfl, rfl, rfl, rfl, rfl, ?_, ?_, rfl, s.wdSystem_eq v, ?_⟩
  · rw [← hdrop]; rfl
  · rw [← hdrop]; rfl
  · show s.wdCommand v = _
    simp only [State.wdCommand, isForceInt_iff, and_stBusy_ne_zero_iff, State.wdForceInt_eq, State.wdAccept_eq]
    rfl

end Sys2Proof.Machine
end
